-- ==== Sys2Proof/Word.lean ====
section
/-! DEFINITION. Word.lean: the widths of the registers and signals (00_scope.md R5, 10_state.md R10).
A line level is one bit, true for the electrically high level (00_scope.md R6, 20_memory.md R52).
All values are unsigned (R6). -/

namespace Sys2Proof

/-- The level of a line at a tick's entry: `true` is high (R6). -/
abbrev Level := Bool

/-- One byte of operand wires. -/
abbrev Byte := BitVec 8

/-- A 16-bit status or auxiliary word (R13, R14, R16). -/
abbrev Word := BitVec 16

/-- The seven keypad bits of a frame (R15). -/
abbrev KeyBits := BitVec 7

/-- An 8-bit key code (R24, R75). -/
abbrev Code := BitVec 8

/-- A timestamp in microseconds, `TS_W = 32` (R5, R63). -/
abbrev Timestamp := BitVec 32

/-- A saturating frame counter, `CNT_W = 16` (R5, R111 (f)). -/
abbrev Count := BitVec 16

end Sys2Proof
end

