-- ==== Sys2Proof/Syntax.lean ====
section
/-! DEFINITION. Syntax.lean: the operations of the block, one constructor of `Instr` for each row of
spec/opcode_table.json (30_encoding.md R77, R78), their operands, and the record in which the host
port carries one event. -/

namespace Sys2Proof

/-- The 15 key symbols of the Key Code Table (44_interpreter.md R203). The three function keys have the
spec's place-holder names `'F'`, `'A'`, `'P'`. -/
inductive KeySymbol where
  | d0 | d1 | d2 | d3 | d4 | d5 | d6 | d7 | d8 | d9
  | star | hash | fnF | fnA | fnP
deriving DecidableEq, Repr

/-- What the host passes to SEND_KEY as a symbol: one of the 15, "or anything else the host passes as
one" (43_host_ops.md R161), known by the character code it was passed as. -/
inductive Symbol where
  | key (k : KeySymbol)
  | other (code : Byte)
deriving DecidableEq, Repr

/-- The twelve one-bit fields of the status snapshot (30_encoding.md R76, 44_interpreter.md R205).
`zone i` is zone light `i + 1`, `light j` is status light `j + 1`. -/
inductive StatusBit where
  | zone (i : Fin 6)
  | light (j : Fin 5)
  | beep
deriving DecidableEq, Repr

/-- The fourteen one-bit fields of the auxiliary snapshot (30_encoding.md R76, 44_interpreter.md R208).
`button b` is button `b + 1` (1 panic, 2 auxiliary, 3 fire, R209), `tripped i` is zone `i + 1`. -/
inductive AuxBit where
  | pgm
  | button (b : Fin 3)
  | armed
  | armedBypass
  | trouble
  | fireLatched
  | tripped (i : Fin 6)
deriving DecidableEq, Repr

/-- The five inputs of one TICK (20_memory.md R51): the three line levels at its entry, the second
read of the data line, and the timestamp. -/
structure LineSample where
  clk : Level
  data : Level
  aux : Level
  data2 : Level
  now : Timestamp
deriving DecidableEq, Repr, Inhabited

/-- One event as the host port carries it: the event word `EV[6:0]` (30_encoding.md R79) and, "beside
the event word", 40 operand wires. DESIGN CHOICE (log 2): the places of the operands on the wires. -/
structure PortRecord where
  ev : BitVec 7
  operands : BitVec 40
deriving DecidableEq, Repr

/-- The operations of the block, in the order of spec/opcode_table.json. -/
inductive Instr where
  /-- TICK, the whole operation (R100). -/
  | tick (clk data aux data2 : Level) (now : Timestamp)
  /-- TICK.LOW: `EDGE_MEM = 0`, `clk = 0` (R106). -/
  | tickLow (data aux data2 : Level) (now : Timestamp)
  /-- TICK.RISE: `EDGE_MEM = 0`, `clk = 1` (R109). -/
  | tickRise (data aux data2 : Level) (now : Timestamp)
  /-- TICK.FALL: `EDGE_MEM = 1`, `clk = 0` (R108). -/
  | tickFall (data aux data2 : Level) (now : Timestamp)
  /-- TICK.HIGH: `EDGE_MEM = 1`, `clk = 1` (R107). -/
  | tickHigh (data aux data2 : Level) (now : Timestamp)
  /-- CLEARDONE, a sub-operation of TICK (R102). -/
  | clearDone
  /-- RESYNC, a sub-operation of TICK (R104). -/
  | resync
  /-- KEYSAMPLE, a sub-operation of TICK (R120). -/
  | keySample (data2 : Level)
  /-- STAMP, a sub-operation of TICK (R121). -/
  | stamp (now : Timestamp)
  /-- BITSHIFT, a sub-operation of TICK (R122). -/
  | bitShift (data aux : Level)
  /-- FIRSTBIT, a sub-operation of TICK (R140). -/
  | firstBit
  /-- RELEASE, a sub-operation of TICK (R141). -/
  | release
  /-- TXEND, a sub-operation of TICK (R142). -/
  | txEnd
  /-- TXSLOT, a sub-operation of TICK (R143). -/
  | txSlot
  /-- HOLD_COUNTDOWN, the last step of TXSLOT when the cursor reaches 7 (R144). -/
  | holdCountdown
  /-- COMPLETE, a sub-operation of TICK (R123). -/
  | complete
  /-- BEEP_UPDATE, a step of COMPLETE (R124). -/
  | beepUpdate
  /-- INTERPRET, run right after COMPLETE (R200). -/
  | interpret
  /-- CHANGE_UPDATE, the first step of INTERPRET (R201). -/
  | changeUpdate
  /-- KEY_CLASSIFY, the second step of INTERPRET (R202). -/
  | keyClassify
  /-- SAVECLK, the last step of TICK (R110). -/
  | saveClk (clk : Level)
  /-- SEND_KEY with a symbol and a count of hold-cycles (R161). -/
  | sendKey (sym : Symbol) (n : Nat)
  /-- Q_READY (R162). -/
  | qReady
  /-- Q_FRAME_DONE (R163). -/
  | qFrameDone
  /-- Q_CHANGED (R164). -/
  | qChanged
  /-- Q_PRESSED (R165). -/
  | qPressed
  /-- Q_RELEASED (R166). -/
  | qReleased
  /-- Q_PRESS_CNT (R167). -/
  | qPressCnt
  /-- Q_BEEP_CNT (R168). -/
  | qBeepCnt
  /-- Q_ZONE_LIGHT, index 1 to 6 (R205). -/
  | qZoneLight (i : Nat)
  /-- Q_STATUS_LIGHT, index 1 to 5 (R206). -/
  | qStatusLight (j : Nat)
  /-- Q_BEEP (R207). -/
  | qBeep
  /-- Q_PGM (R208). -/
  | qPgm
  /-- Q_BTN, index 1 to 3 (R209). -/
  | qBtn (b : Nat)
  /-- Q_ARMED (R210). -/
  | qArmed
  /-- Q_ARMED_BYPASS (R211). -/
  | qArmedBypass
  /-- Q_TROUBLE (R212). -/
  | qTrouble
  /-- Q_FIRE_LATCHED (R213). -/
  | qFireLatched
  /-- Q_ZONE_TRIPPED, index 1 to 6 (R214). -/
  | qZoneTripped (i : Nat)
  /-- Q_ANY_TRIPPED_ARMED (R215). -/
  | qAnyTrippedArmed
  /-- WAIT_FRAME, the composite operation (R169, R82). -/
  | waitFrame
  /-- RESET (R160). -/
  | reset
deriving DecidableEq, Repr

end Sys2Proof
end

