-- ==== Sys2Proof/Config.lean ====
section
/-! DEFINITION. Config.lean: the parameters of the hardware (00_scope.md R5).

The parameters with a value stand here as numbers, each in one place. The OPEN parameters
(`MIN_QUIET_CYCLES`, `KEYCODE`, the 26 masks) have no value in the spec: the operations take them as an
argument `Params`, and the machine runs with `Config.params`, made of opaque constants that have no
body, so that a proof about the machine holds for every value the constraints of R203, R205 and R208
allow (log 6). -/

namespace Sys2Proof

namespace Config

/-- `FRAME_BITS`: rising clock edges per frame (R5). -/
def frameBits : Nat := 16

/-- `KEY_BITS`: keypad bits per frame, and transmit slots per frame (R5, R75). -/
def keyBits : Nat := 7

/-- `KEY_FIRST_POS`: the first Frame Position at which a falling edge samples a keypad bit (R5). -/
def keyFirstPos : Nat := 1

/-- `KEY_LAST_POS`: the last such Frame Position (R5). -/
def keyLastPos : Nat := 7

/-- `TX_END_POS`: the Frame Position at which transmitting mode ends (R5, R142). -/
def txEndPos : Nat := 8

/-- `GAP_MIN_US`: lower bound of the resynchronization window, inclusive (R5, R74). -/
def gapMinUs : Nat := 25000

/-- `GAP_MAX_US`: upper bound of the resynchronization window, inclusive (R5, R74). -/
def gapMaxUs : Nat := 28000

end Config

/-- The number of a key symbol in the order of 30_encoding.md R81. -/
def KeySymbol.index : KeySymbol → Fin 15
  | .d0 => 0 | .d1 => 1 | .d2 => 2 | .d3 => 3 | .d4 => 4
  | .d5 => 5 | .d6 => 6 | .d7 => 7 | .d8 => 8 | .d9 => 9
  | .star => 10 | .hash => 11 | .fnF => 12 | .fnA => 13 | .fnP => 14

/-- The 15 key symbols (R203). -/
def KeySymbol.all : List KeySymbol :=
  [.d0, .d1, .d2, .d3, .d4, .d5, .d6, .d7, .d8, .d9, .star, .hash, .fnF, .fnA, .fnP]

/-- A number for each of the twelve status fields, all different. -/
def StatusBit.index : StatusBit → Fin 16
  | .zone i => ⟨i.val, by omega⟩
  | .light j => ⟨6 + j.val, by omega⟩
  | .beep => 11

/-- A number for each of the fourteen auxiliary fields, all different. -/
def AuxBit.index : AuxBit → Fin 16
  | .pgm => 0
  | .button b => ⟨1 + b.val, by omega⟩
  | .armed => 4
  | .armedBypass => 5
  | .trouble => 6
  | .fireLatched => 7
  | .tripped i => ⟨8 + i.val, by omega⟩

/-- The OPEN parameters of R5 as one argument of the operations: `MIN_QUIET_CYCLES` (a natural number
below `2^CNT_W`), the table `KEYCODE`, and the masks over the status and auxiliary snapshots. -/
structure Params where
  minQuiet : Count
  keyCode : KeySymbol → Code
  statusMask : StatusBit → Word
  auxMask : AuxBit → Word

/-- A mask with exactly one bit set in 16 (R205, R208). -/
def OneHot (m : Word) : Prop := ∃ k : Fin 16, m = BitVec.twoPow 16 k.val

/-- The constraints that every instantiation of the OPEN parameters must satisfy: on `KEYCODE` (a), (b)
and (c) of R203, on the twelve status masks those of R205, on the fourteen auxiliary masks those
of R208. -/
structure Params.Valid (p : Params) : Prop where
  codes_differ : Function.Injective p.keyCode
  code_nonzero : ∀ k, p.keyCode k ≠ 0
  code_bit7_clear : ∀ k, (p.keyCode k).getLsbD 7 = false
  status_oneHot : ∀ b, OneHot (p.statusMask b)
  status_differ : Function.Injective p.statusMask
  aux_oneHot : ∀ b, OneHot (p.auxMask b)
  aux_differ : Function.Injective p.auxMask

namespace Config

/-- OPEN (R5, D25): `MIN_QUIET_CYCLES`. -/
opaque minQuietCycles : Count

/-- OPEN (R5, D26): where each key's code lies among the 127 codes `0x01` to `0x7F`. Codes that are
pairwise different, not zero and clear in bit 7 are exactly what such a placing of the 15 keys gives,
and every placing of 15 extends to one of all 127, so no table that R203 allows is left out. -/
opaque codePlace : Equiv.Perm (Fin 127)

/-- OPEN (R5, D27): which bit of the status word each field lies at. Twelve pairwise different places
among 16 extend to a permutation of the 16, so no choice that R205 allows is left out. -/
opaque statusPlace : Equiv.Perm (Fin 16)

/-- OPEN (R5, D27): which bit of the auxiliary word each field lies at, in the same form (R208). -/
opaque auxPlace : Equiv.Perm (Fin 16)

/-- FREE VALUE (log 9): the inputs of the n-th poll of a WAIT_FRAME for which the environment has put
down no sample. Each line is then a free bit and `now` a free timestamp (93: U10, U11). -/
opaque freeSample : Nat → LineSample

/-- The table `KEYCODE` of the machine (R203). -/
def keyCode (k : KeySymbol) : Code :=
  BitVec.ofNat 8 ((codePlace ⟨k.index.val, by omega⟩).val + 1)

/-- The status masks `M_ZONE[1..6]`, `M_LIGHT[1..5]`, `M_BEEP` of the machine (R205). -/
def statusMask (b : StatusBit) : Word := BitVec.twoPow 16 (statusPlace b.index).val

/-- The fourteen auxiliary masks of the machine (R208). -/
def auxMask (b : AuxBit) : Word := BitVec.twoPow 16 (auxPlace b.index).val

/-- The OPEN parameters the machine runs with. -/
def params : Params where
  minQuiet := minQuietCycles
  keyCode := keyCode
  statusMask := statusMask
  auxMask := auxMask

end Config

end Sys2Proof
end

