-- ==== Sys2Proof/WellFormed.lean ====
section
/-! DEFINITION. WellFormed.lean: which operands the interface of the block admits (30_encoding.md R77,
R80 (e); 93_implementation_defined.md U17), and which operations are events of an execution
(00_scope.md R8, 30_encoding.md R79). -/

namespace Sys2Proof

/-- The character by which a key symbol is written (30_encoding.md R81), as its ASCII code.
DESIGN CHOICE (log 11): the spec numbers no characters. -/
def KeySymbol.char : KeySymbol → Byte
  | .d0 => 0x30#8 | .d1 => 0x31#8 | .d2 => 0x32#8 | .d3 => 0x33#8 | .d4 => 0x34#8
  | .d5 => 0x35#8 | .d6 => 0x36#8 | .d7 => 0x37#8 | .d8 => 0x38#8 | .d9 => 0x39#8
  | .star => 0x2A#8 | .hash => 0x23#8 | .fnF => 0x46#8 | .fnA => 0x41#8 | .fnP => 0x50#8

/-- The key symbol a character stands for, if any. -/
def KeySymbol.ofChar (c : Byte) : Option KeySymbol :=
  match c.toNat with
  | 0x30 => some .d0 | 0x31 => some .d1 | 0x32 => some .d2 | 0x33 => some .d3 | 0x34 => some .d4
  | 0x35 => some .d5 | 0x36 => some .d6 | 0x37 => some .d7 | 0x38 => some .d8 | 0x39 => some .d9
  | 0x2A => some .star | 0x23 => some .hash | 0x46 => some .fnF | 0x41 => some .fnA | 0x50 => some .fnP
  | _ => none

/-- `.other` stands only for a character that is no key's. -/
def Symbol.wf : Symbol → Bool
  | .key _ => true
  | .other c => (KeySymbol.ofChar c).isNone

/-- A hold count that `HOLD_W = 8` bits carry (R161, U17). -/
def holdOk (n : Nat) : Bool := decide (n < 2 ^ 8)

/-- An index of Q_ZONE_LIGHT or Q_ZONE_TRIPPED: 1 to 6 (R205, R214). -/
def zoneOk (i : Nat) : Bool := decide (1 ≤ i ∧ i ≤ 6)

/-- An index of Q_STATUS_LIGHT: 1 to 5 (R206). -/
def lightOk (j : Nat) : Bool := decide (1 ≤ j ∧ j ≤ 5)

/-- An index of Q_BTN: 1 to 3 (R209). -/
def buttonOk (b : Nat) : Bool := decide (1 ≤ b ∧ b ≤ 3)

/-- The operands are ones the interface admits (R77, R80 (e), U17). -/
def Instr.wf : Instr → Bool
  | .sendKey sym n => sym.wf && holdOk n
  | .qZoneLight i => zoneOk i
  | .qStatusLight j => lightOk j
  | .qBtn b => buttonOk b
  | .qZoneTripped i => zoneOk i
  | .tick .. | .tickLow .. | .tickRise .. | .tickFall .. | .tickHigh .. => true
  | .clearDone | .resync | .keySample _ | .stamp _ | .bitShift _ _ | .firstBit | .release | .txEnd
  | .txSlot | .holdCountdown | .complete | .beepUpdate | .interpret | .changeUpdate | .keyClassify
  | .saveClk _ => true
  | .qReady | .qFrameDone | .qChanged | .qPressed | .qReleased | .qPressCnt | .qBeepCnt | .qBeep
  | .qPgm | .qArmed | .qArmedBypass | .qTrouble | .qFireLatched | .qAnyTrippedArmed => true
  | .waitFrame | .reset => true

/-- The operation has an event word of its own, so that an execution can hold it as an event (R8, R79).
The sub-operations have none: they run inside a TICK. TICK itself has none beside those of its four
cases, which tell it apart by `EDGE_MEM` and `clk` (R79). -/
def Instr.isEvent : Instr → Bool
  | .tick .. => false
  | .clearDone | .resync | .keySample _ | .stamp _ | .bitShift _ _ | .firstBit | .release | .txEnd
  | .txSlot | .holdCountdown | .complete | .beepUpdate | .interpret | .changeUpdate | .keyClassify
  | .saveClk _ => false
  | .tickLow .. | .tickRise .. | .tickFall .. | .tickHigh .. => true
  | .sendKey _ _ | .qReady | .qFrameDone | .qChanged | .qPressed | .qReleased | .qPressCnt
  | .qBeepCnt | .qZoneLight _ | .qStatusLight _ | .qBeep | .qPgm | .qBtn _ | .qArmed
  | .qArmedBypass | .qTrouble | .qFireLatched | .qZoneTripped _ | .qAnyTrippedArmed => true
  | .waitFrame | .reset => true

end Sys2Proof
end

