-- ==== Sys2Proof/Decode.lean ====
section
/-! DEFINITION. Decode.lean: the event words of 30_encoding.md R79, read and written.

`decode` reads a record of the host port: total, refusing by name what R80 (d), (e) and
93_implementation_defined.md U17 refuse. `encode` writes one. The sub-operations have no event word of
their own (R79), so `decode` answers none of them; `encode` gives for each the word of a tick it is
part of, with the letters `e` and `c` of its pattern taken as 0. -/

namespace Sys2Proof

/-- Why a record of the host port is no event (R80 (d), (e); U17). The step answers with it in
`Refusal.notAnEvent`. Safe: the block has no such event. -/
inductive Reject where
  /-- `EV[6:5] = 11` (R79 "not an event; refused"). -/
  | reservedClass
  /-- Class 00 with `EV[4:2]` not 0 (R80 (d)). -/
  | reservedTick
  /-- Class 10 with `EV[4:0]` not 0 (R80 (d)). -/
  | reservedReset
  /-- Class 01 with a command number 20 to 31 (R80 (d)). -/
  | reservedCommand
  /-- An indexed query with an index out of range (R80 (e)). -/
  | indexOutOfRange
  /-- SEND_KEY with `N` of `2^HOLD_W` or more (U17). -/
  | holdOutOfRange
deriving DecidableEq, Repr

/-! The places of the operands on the operand wires. DESIGN CHOICE (log 2). -/

/-- A tick's `data`: wire 0. -/
def PortRecord.data (r : PortRecord) : Level := r.operands.getLsbD 0

/-- A tick's `aux`: wire 1. -/
def PortRecord.aux (r : PortRecord) : Level := r.operands.getLsbD 1

/-- A tick's `data2`: wire 2. -/
def PortRecord.data2 (r : PortRecord) : Level := r.operands.getLsbD 2

/-- A tick's `now`: wires 39 to 8. -/
def PortRecord.now (r : PortRecord) : Timestamp := r.operands.extractLsb' 8 32

/-- SEND_KEY's symbol, as a character: wires 7 to 0. -/
def PortRecord.symbol (r : PortRecord) : Symbol :=
  let c := r.operands.extractLsb' 0 8
  match KeySymbol.ofChar c with
  | some k => .key k
  | none => .other c

/-- SEND_KEY's `N`: wires 23 to 8. -/
def PortRecord.hold (r : PortRecord) : Nat := (r.operands.extractLsb' 8 16).toNat

/-- The index of an indexed query: wires 7 to 0 hold the index less 1, so that wires of zeros name the
first. -/
def PortRecord.index (r : PortRecord) : Nat := (r.operands.extractLsb' 0 8).toNat + 1

/-- `EV[6:5]`, the class of an event word (R79). -/
def evClass (ev : BitVec 7) : Nat := (ev.extractLsb' 5 2).toNat

/-- `EV[4:0]`, the command number of a class 01 word (R79). -/
def evNumber (ev : BitVec 7) : Nat := (ev.extractLsb' 0 5).toNat

/-- Accept an instruction if `ok`, else refuse by name. -/
def guardOperand (ok : Bool) (why : Reject) (i : Instr) : Except Reject Instr :=
  if ok then .ok i else .error why

/-- Class 00: `000ec`, `e = EDGE_MEM`, `c = clk` (R79). -/
def decodeTick (r : PortRecord) : Except Reject Instr :=
  if r.ev.extractLsb' 2 3 ≠ 0#3 then .error .reservedTick
  else
    match r.ev.getLsbD 1, r.ev.getLsbD 0 with
    | false, false => .ok (.tickLow r.data r.aux r.data2 r.now)
    | false, true => .ok (.tickRise r.data r.aux r.data2 r.now)
    | true, false => .ok (.tickFall r.data r.aux r.data2 r.now)
    | true, true => .ok (.tickHigh r.data r.aux r.data2 r.now)

/-- Class 01: the command numbers of R79. -/
def decodeCommand (r : PortRecord) : Except Reject Instr :=
  match evNumber r.ev with
  | 0 => guardOperand (holdOk r.hold) .holdOutOfRange (.sendKey r.symbol r.hold)
  | 1 => .ok .qReady
  | 2 => .ok .qFrameDone
  | 3 => .ok .qChanged
  | 4 => .ok .qPressed
  | 5 => .ok .qReleased
  | 6 => .ok .qPressCnt
  | 7 => .ok .qBeepCnt
  | 8 => guardOperand (zoneOk r.index) .indexOutOfRange (.qZoneLight r.index)
  | 9 => guardOperand (lightOk r.index) .indexOutOfRange (.qStatusLight r.index)
  | 10 => .ok .qBeep
  | 11 => .ok .qPgm
  | 12 => guardOperand (buttonOk r.index) .indexOutOfRange (.qBtn r.index)
  | 13 => .ok .qArmed
  | 14 => .ok .qArmedBypass
  | 15 => .ok .qTrouble
  | 16 => .ok .qFireLatched
  | 17 => guardOperand (zoneOk r.index) .indexOutOfRange (.qZoneTripped r.index)
  | 18 => .ok .qAnyTrippedArmed
  | 19 => .ok .waitFrame
  | _ => .error .reservedCommand

/-- Class 10: RESET (R79). -/
def decodeReset (r : PortRecord) : Except Reject Instr :=
  if evNumber r.ev = 0 then .ok .reset else .error .reservedReset

/-- The event a record of the host port stands for (R79), or why it is none (R80). -/
def decode (r : PortRecord) : Except Reject Instr :=
  match evClass r.ev with
  | 0 => decodeTick r
  | 1 => decodeCommand r
  | 2 => decodeReset r
  | _ => .error .reservedClass

/-! The encoder, from the same table. -/

/-- The record of a tick with word `00 000ec` (R79). -/
def tickRecord (e clk data aux data2 : Level) (now : Timestamp) : PortRecord where
  ev := (0#5 ++ BitVec.ofBool e ++ BitVec.ofBool clk : BitVec 7)
  operands := now ++ (0#5 ++ BitVec.ofBool data2 ++ BitVec.ofBool aux ++ BitVec.ofBool data : BitVec 8)

/-- The record of command number `n` (R79) with the given operand wires. -/
def commandRecord (n : BitVec 5) (operands : BitVec 40) : PortRecord where
  ev := 0b01#2 ++ n
  operands := operands

/-- The operand wires of an indexed query: the index less 1. -/
def indexWires (i : Nat) : BitVec 40 := (0#32 ++ BitVec.ofNat 8 (i - 1) : BitVec 40)

/-- The character of a symbol on the operand wires. -/
def Symbol.char : Symbol → Byte
  | .key k => k.char
  | .other c => c

/-- The operand wires of SEND_KEY. -/
def sendKeyWires (sym : Symbol) (n : Nat) : BitVec 40 :=
  (0#16 ++ BitVec.ofNat 16 n ++ sym.char : BitVec 40)

/-- The record of an operation (R79). -/
def encode : Instr → PortRecord
  | .tick clk data aux data2 now => tickRecord false clk data aux data2 now
  | .tickLow data aux data2 now => tickRecord false false data aux data2 now
  | .tickRise data aux data2 now => tickRecord false true data aux data2 now
  | .tickFall data aux data2 now => tickRecord true false data aux data2 now
  | .tickHigh data aux data2 now => tickRecord true true data aux data2 now
  | .clearDone => tickRecord false false false false false 0
  | .resync => tickRecord false true false false false 0
  | .keySample data2 => tickRecord true false false false data2 0
  | .stamp now => tickRecord false true false false false now
  | .bitShift data aux => tickRecord false true data aux false 0
  | .firstBit => tickRecord false true false false false 0
  | .release => tickRecord false true false false false 0
  | .txEnd => tickRecord false true false false false 0
  | .txSlot => tickRecord false true false false false 0
  | .holdCountdown => tickRecord false true false false false 0
  | .complete => tickRecord false true false false false 0
  | .beepUpdate => tickRecord false true false false false 0
  | .interpret => tickRecord false true false false false 0
  | .changeUpdate => tickRecord false true false false false 0
  | .keyClassify => tickRecord false true false false false 0
  | .saveClk clk => tickRecord false clk false false false 0
  | .sendKey sym n => commandRecord 0 (sendKeyWires sym n)
  | .qReady => commandRecord 1 0
  | .qFrameDone => commandRecord 2 0
  | .qChanged => commandRecord 3 0
  | .qPressed => commandRecord 4 0
  | .qReleased => commandRecord 5 0
  | .qPressCnt => commandRecord 6 0
  | .qBeepCnt => commandRecord 7 0
  | .qZoneLight i => commandRecord 8 (indexWires i)
  | .qStatusLight j => commandRecord 9 (indexWires j)
  | .qBeep => commandRecord 10 0
  | .qPgm => commandRecord 11 0
  | .qBtn b => commandRecord 12 (indexWires b)
  | .qArmed => commandRecord 13 0
  | .qArmedBypass => commandRecord 14 0
  | .qTrouble => commandRecord 15 0
  | .qFireLatched => commandRecord 16 0
  | .qZoneTripped i => commandRecord 17 (indexWires i)
  | .qAnyTrippedArmed => commandRecord 18 0
  | .waitFrame => commandRecord 19 0
  | .reset => { ev := 0b1000000#7, operands := 0 }

/-! The host's question about a table word. -/

/-- The record whose bits are `w`, of which `nbits` count and the rest are 0: bits 6 to 0 are the event
word, bits 47 to 8 the operand wires. Bit 7 is no wire of the port: the event word is 7 bits wide
(R79, log 2). -/
def PortRecord.ofTableWord (nbits w : Nat) : PortRecord where
  ev := BitVec.ofNat 7 (w % 2 ^ nbits)
  operands := BitVec.ofNat 40 (w % 2 ^ nbits / 2 ^ 8)

/-- The instruction the decoder reads from a table word (bit 0 least significant). -/
def decodeTableWord (nbits w : Nat) : Option Instr :=
  match decode (PortRecord.ofTableWord nbits w) with
  | .ok i => some i
  | .error _ => none

end Sys2Proof
end

