-- ==== Sys2Proof/Machine/State.lean ====
section
/-! DEFINITION. Machine/State.lean: the state of the machine as plain data, the reasons a step can stop,
and the state after reset.

`Regs` holds the 24 registers of the block (10_state.md R10) and nothing else. `State` adds what lies at
the block's ports and is no register of it (R31): the host port's result, the events the host has
issued, the samples the environment will show. -/

namespace Sys2Proof.Machine

/-- The 24 registers of one engine instance (10_state.md R10). -/
structure Regs where
  /-- `POS`, the Frame Position, 0 to 16 (R11). -/
  pos : BitVec 5
  /-- `SYNC`, the Synchronization Flag (R12). -/
  sync : Bool
  /-- `ST_ACC`, the Status Accumulator (R13). -/
  stAcc : Word
  /-- `AUX_ACC`, the Auxiliary Accumulator (R14). -/
  auxAcc : Word
  /-- `KEY_ACC`, the Keypad Accumulator (R15). -/
  keyAcc : KeyBits
  /-- `ST_AVAIL`, the Available Status Snapshot (R16). -/
  stAvail : Word
  /-- `AUX_AVAIL`, the Available Auxiliary Snapshot (R16). -/
  auxAvail : Word
  /-- `KEY_AVAIL`, the Available Keypad Snapshot (R16). -/
  keyAvail : KeyBits
  /-- `ST_PREV`, the status snapshot before the last (R17). -/
  stPrev : Word
  /-- `KEY_PREV`, the keypad snapshot before the last (R17). -/
  keyPrev : KeyBits
  /-- `FRAME_DONE`, the frame-complete flag (R18). -/
  frameDone : Bool
  /-- `EDGE_MEM`, the last observed clock level (R19). -/
  edgeMem : Level
  /-- `IDLE_T`, the Idle-Gap Timer (R23). -/
  idleT : Timestamp
  /-- `TX_CODE`, the pending key code, 0 for none (R24). -/
  txCode : Code
  /-- `TX_HOLD`, the remaining hold-cycle count (R25). -/
  txHold : BitVec 8
  /-- `TX_CUR`, the sent-bit cursor (R26). -/
  txCur : BitVec 3
  /-- `TX_ACTIVE`, the transmitting mode (R20). -/
  txActive : Bool
  /-- `QUIET_CNT`, the without-key-cycle counter (R27). -/
  quietCnt : Count
  /-- `DRIVE_LOW`, the output latch of the data-line driver (R21, R243). -/
  driveLow : Bool
  /-- `BEEP_CNT`, the Beep Cadence Counter (R28). -/
  beepCnt : Count
  /-- `PRESSED`, the currently pressed key's raw code (R29). -/
  pressed : KeyBits
  /-- `RELEASED`, the currently released key's raw code (R29). -/
  released : KeyBits
  /-- `PRESS_CNT`, the consecutive-press cycle count (R29). -/
  pressCnt : Count
  /-- `CHANGED`, the status snapshot differs from the one before (R22). -/
  changed : Bool
deriving DecidableEq, Repr

/-- The registers after RESET: every one 0 (10_state.md R30, 43_host_ops.md R160). -/
def Regs.reset : Regs where
  pos := 0
  sync := false
  stAcc := 0
  auxAcc := 0
  keyAcc := 0
  stAvail := 0
  auxAvail := 0
  keyAvail := 0
  stPrev := 0
  keyPrev := 0
  frameDone := false
  edgeMem := false
  idleT := 0
  txCode := 0
  txHold := 0
  txCur := 0
  txActive := false
  quietCnt := 0
  driveLow := false
  beepCnt := 0
  pressed := 0
  released := 0
  pressCnt := 0
  changed := false

/-- What the host port gives out for an operation (30_encoding.md R77, column "result"). -/
inductive HostResult where
  /-- The operation has no result. -/
  | noResult
  /-- SEND_KEY's `ACCEPT`. -/
  | accept
  /-- SEND_KEY's `REJECT`. -/
  | reject
  /-- A query's one bit. -/
  | bit (b : Bool)
  /-- A query's key symbol, or `none` for the spec's `NONE`. -/
  | symbol (k : Option KeySymbol)
  /-- A query's `CNT_W` bits. -/
  | count (c : Count)
deriving DecidableEq, Repr

/-- Why a step ends in a fault: never. The block raises no exception and has no fault state
(60_exceptions.md R230), so there is no constructor. -/
inductive Fault : Type
deriving DecidableEq, Repr

/-- Why an execution is refused: only what lies outside the interface of the block (R230, R80, U17).
All are safe: the hardware has no such operation. -/
inductive Refusal where
  /-- Raised by `exec` for an instruction that has no meaning yet; no arm does. Safe. -/
  | notModelled (mnemonic : String)
  /-- Raised by the step for a record of the host port that is no event (R79, R80 (d), (e)). Safe. -/
  | notAnEvent (why : Reject)
  /-- Raised by an indexed query given an index out of its range (R80 (e), R216). Safe. -/
  | indexOutOfRange (i : Nat)
  /-- Raised by SEND_KEY given an `N` that `HOLD_W` bits do not hold (U17). Safe. -/
  | holdOutOfRange (n : Nat)
deriving DecidableEq, Repr

/-- The machine: the registers of the block, and what lies at its ports. -/
structure State where
  /-- The 24 registers (R10). -/
  regs : Regs
  /-- What the host port last gave out (R51; log 8). The model's own field. -/
  result : HostResult
  /-- The events issued by the host and not yet taken, first first (R8, R59; log 1). The model's own. -/
  script : List PortRecord
  /-- The samples the environment shows at the coming polls of a WAIT_FRAME (R169; log 9). The model's own. -/
  env : List LineSample
  /-- How many polls of WAIT_FRAME took a free sample (log 9). The model's own field. -/
  polls : Nat
deriving DecidableEq, Repr

/-- The machine after reset (R30, R260): every register 0. The ports are as no event had been issued
yet: no result, no event, no sample (DESIGN CHOICE, log 10). -/
def State.reset : State where
  regs := Regs.reset
  result := .noResult
  script := []
  env := []
  polls := 0

end Sys2Proof.Machine
end

