-- ==== Sys2Proof/Machine/Ops.lean ====
section
/-! DEFINITION. Machine/Ops.lean: the operations every meaning is made of: the arithmetic of
40_tick_sync.md R111, the Key Code Table in both directions (44_interpreter.md R204), and the host port.

There is no exception to take and none to return from (60_exceptions.md R230): no operation here stands
for that. There is no memory (20_memory.md R50). -/

namespace Sys2Proof.Machine

/-! ## Arithmetic (R7, R111) -/

/-- `sub_ts(a, b) = (a - b) mod 2^TS_W` (R7, R111 (a)). -/
def subTs (a b : Timestamp) : Timestamp := a - b

/-- `sat_inc(c)`: one more, but never past `2^CNT_W - 1` (R7, R111 (f)). -/
def satInc (c : Count) : Count := if c.toNat < 2 ^ 16 - 1 then c + 1 else c

/-- A word of `w` bits with bit `i` equal to `b` and every other bit 0: `b << i`, the single-bit
placement of R111 (g). -/
def placeBit (w : Nat) (b : Bool) (i : Nat) : BitVec w := if b then BitVec.twoPow w i else 0

/-- The place of the status and auxiliary bit taken at Frame Position `p`: `15 - p` (R13, R14, R71, R72). -/
def wordPlace (p : BitVec 5) : Nat := 15 - p.toNat

/-- The place of the keypad bit taken at Frame Position `p`: `7 - p` (R15, R73). -/
def keyPlace (p : BitVec 5) : Nat := 7 - p.toNat

/-- The bit of `TX_CODE` the next slot carries: `6 - TX_CUR` (R26, R75). -/
def slotPlace (cur : BitVec 3) : Nat := 6 - cur.toNat

/-! ## The Key Code Table (R204) -/

/-- `ENCODE(sym)`: the key's code, or the sentinel `0x00` for what is no key (R204). -/
def encodeSymbol (p : Params) : Symbol → Code
  | .key k => p.keyCode k
  | .other _ => 0

/-- `DECODE(code)`: the symbol with that code, or `none` for `NONE` (R204). -/
def decodeCode (p : Params) (c : Code) : Option KeySymbol :=
  KeySymbol.all.find? fun k => p.keyCode k == c

/-- `DECODE` of a 7-bit register: the register is zero-extended (R7, R204). -/
def decodeKey (p : Params) (k : KeyBits) : Option KeySymbol := decodeCode p (k.zeroExtend 8)

/-! ## The host port (R51, R59) -/

/-- `s` with its registers changed by `f` and nothing else. -/
def State.mapRegs (s : State) (f : Regs → Regs) : State := { s with regs := f s.regs }

/-- `s` with `r` on the host port's result output (R51; log 8). -/
def State.answer (s : State) (r : HostResult) : State := { s with result := r }

/-- The event word of a record as it is read in a state whose Edge Memory is `e`. In class 00 bit 1 is
"EDGE_MEM before the tick (state, not an input)" (R79): it is read from the register, not from the
port. DEDUCED (log 3). -/
def eventWord (e : Level) (ev : BitVec 7) : BitVec 7 :=
  if evClass ev = 0 then
    (ev.extractLsb' 2 5 ++ BitVec.ofBool e ++ ev.extractLsb' 0 1 : BitVec 7)
  else ev

/-- A record as it is read in state `s`. -/
def readRecord (s : State) (r : PortRecord) : PortRecord :=
  { r with ev := eventWord s.regs.edgeMem r.ev }

/-- The first event the host has issued, and the state once the port has taken it; `none` when the host
has issued none (R59: nothing happens between events). -/
def fetch (s : State) : Option (PortRecord × State) :=
  match s.script with
  | [] => none
  | r :: rest => some (readRecord s r, { s with script := rest })

/-- Put `r` where the next event is fetched, before the events already there. A tick's word holds
`EDGE_MEM` in bit 1 (R79), so that the word is fetched as it stands the Edge Memory takes that bit
(log 3). -/
def placeRecord (s : State) (r : PortRecord) : State :=
  { s with
    regs := { s.regs with edgeMem := if evClass r.ev = 0 then r.ev.getLsbD 1 else s.regs.edgeMem }
    script := r :: s.script }

/-- The inputs of one poll of a WAIT_FRAME, "as the environment gives them at that moment" (R169): the
next sample the environment has put down, or a free sample when there is none (log 9). -/
def nextSample (s : State) : LineSample × State :=
  match s.env with
  | x :: rest => (x, { s with env := rest })
  | [] => (Config.freeSample s.polls, { s with polls := s.polls + 1 })

/-- Put an event back where the next one is fetched: WAIT_FRAME stays the event in hand until a frame
completes (R169). -/
def again (i : Instr) (s : State) : State := { s with script := encode i :: s.script }

end Sys2Proof.Machine
end

