-- ==== Sys2Proof/Machine/Operands.lean ====
section
/-! DEFINITION. Machine/Operands.lean: the operand forms (30_encoding.md R77). A TICK takes its five
inputs as one `LineSample`; an indexed query takes a number that names one field of a snapshot, and a
number out of its range is refused (R80 (e)). -/

namespace Sys2Proof.Machine

/-- `M_ZONE[i]`, `i` in 1 to 6 (R205). -/
def zoneField (i : Nat) : Option StatusBit :=
  if h : 1 ≤ i ∧ i ≤ 6 then some (.zone ⟨i - 1, by omega⟩) else none

/-- `M_LIGHT[j]`, `j` in 1 to 5 (R206). -/
def lightField (j : Nat) : Option StatusBit :=
  if h : 1 ≤ j ∧ j ≤ 5 then some (.light ⟨j - 1, by omega⟩) else none

/-- `M_BTN[b]`, `b` in 1 to 3 (R209). -/
def buttonField (b : Nat) : Option AuxBit :=
  if h : 1 ≤ b ∧ b ≤ 3 then some (.button ⟨b - 1, by omega⟩) else none

/-- `M_TRIPPED[i]`, `i` in 1 to 6 (R214). -/
def trippedField (i : Nat) : Option AuxBit :=
  if h : 1 ≤ i ∧ i ≤ 6 then some (.tripped ⟨i - 1, by omega⟩) else none

/-- The indices of the six zone-tripped bits (R214, R215). -/
def trippedAll : List AuxBit :=
  [.tripped 0, .tripped 1, .tripped 2, .tripped 3, .tripped 4, .tripped 5]

end Sys2Proof.Machine
end

