-- ==== Sys2Proof/Machine/Flags.lean ====
section
/-! DEFINITION. Machine/Flags.lean: every condition the rules test and every one-bit value they compute:
the edge of a TICK (40_tick_sync.md R105), the gap window (R74, R104), the transmit and completion
conditions (30_encoding.md R78), CHANGED (R201), the acceptance of a key request (R161, R162), and the
masked bits of the snapshots (R205 to R215). -/

namespace Sys2Proof.Machine

/-- A rising edge: `EDGE_MEM = 0` and `clk = 1` (R105). -/
def isRise (r : Regs) (clk : Level) : Bool := !r.edgeMem && clk

/-- A falling edge: `EDGE_MEM = 1` and `clk = 0` (R105). -/
def isFall (r : Regs) (clk : Level) : Bool := r.edgeMem && !clk

/-- `GAP_MIN_US <= sub_ts(now, IDLE_T) <= GAP_MAX_US`, both included (R74, R103, R111 (b)). -/
def inGap (r : Regs) (now : Timestamp) : Bool :=
  decide (Config.gapMinUs ≤ (subTs now r.idleT).toNat ∧ (subTs now r.idleT).toNat ≤ Config.gapMaxUs)

/-- `1 <= POS <= 7`: a falling edge samples a keypad bit (R108, R120). -/
def inKeyWindow (r : Regs) : Bool :=
  decide (Config.keyFirstPos ≤ r.pos.toNat ∧ r.pos.toNat ≤ Config.keyLastPos)

/-- `POS >= 8`: transmitting mode ends (R142). -/
def atTxEnd (r : Regs) : Bool := decide (Config.txEndPos ≤ r.pos.toNat)

/-- `TX_ACTIVE = 1` and `TX_CUR < 7`: a slot is driven (R143). -/
def hasSlot (r : Regs) : Bool := r.txActive && decide (r.txCur.toNat < Config.keyBits)

/-- `POS = 16`: the frame is complete (R123). -/
def atFrameEnd (r : Regs) : Bool := decide (r.pos.toNat = Config.frameBits)

/-- `TX_CODE != 0`: a request is pending (R24). -/
def pending (r : Regs) : Bool := decide (r.txCode ≠ 0)

/-- `QUIET_CNT >= MIN_QUIET_CYCLES`: the quiet time is served (R161, R162). -/
def quietServed (p : Params) (r : Regs) : Bool := decide (p.minQuiet.toNat ≤ r.quietCnt.toNat)

/-- Q_READY: no request pending and the quiet time served (R162). -/
def ready (p : Params) (r : Regs) : Bool := !pending r && quietServed p r

/-- SEND_KEY accepts: none of the four tests of R161 fails. -/
def accepts (p : Params) (sym : Symbol) (n : Nat) (r : Regs) : Bool :=
  decide (encodeSymbol p sym ≠ 0) && !pending r && quietServed p r && decide (n ≠ 0)

/-- `(w & m) != 0` (R205 to R214, R124). -/
def masked (w m : Word) : Bool := decide (w &&& m ≠ 0)

/-- A field of the status snapshot (R205 to R207). -/
def statusField (p : Params) (r : Regs) (b : StatusBit) : Bool := masked r.stAvail (p.statusMask b)

/-- A field of the auxiliary snapshot (R208 to R214). -/
def auxField (p : Params) (r : Regs) (b : AuxBit) : Bool := masked r.auxAvail (p.auxMask b)

/-- "Any zone tripped while armed": the armed bit and at least one tripped bit (R215). -/
def anyTrippedArmed (p : Params) (r : Regs) : Bool :=
  auxField p r .armed && trippedAll.any (auxField p r)

end Sys2Proof.Machine
end

