-- ==== Sys2Proof/Machine/Interpreter.lean ====
section
/-! DEFINITION. Machine/Interpreter.lean: the Derived State Interpreter (44_interpreter.md): INTERPRET
with its two steps, and the queries over the status and auxiliary snapshots. A query changes no
register (R57, R216): it puts its result on the host port. -/

namespace Sys2Proof.Machine

/-- CHANGE_UPDATE: `CHANGED <- (ST_AVAIL != ST_PREV)`, over all 16 bits (R201, R22). -/
def Regs.changeUpdate (r : Regs) : Regs := { r with changed := decide (r.stAvail ≠ r.stPrev) }

/-- KEY_CLASSIFY, with `o = KEY_PREV` and `n = KEY_AVAIL` (R202): the rows none, press, release, held
and different of its table. -/
def Regs.keyClassify (r : Regs) : Regs :=
  if r.keyPrev = 0 then
    if r.keyAvail = 0 then { r with pressed := 0, released := 0, pressCnt := 0 }
    else { r with pressed := r.keyAvail, released := 0, pressCnt := 1 }
  else if r.keyAvail = 0 then { r with pressed := 0, released := r.keyPrev, pressCnt := 0 }
  else if r.keyAvail = r.keyPrev then
    { r with pressed := r.keyAvail, released := 0, pressCnt := satInc r.pressCnt }
  else { r with pressed := r.keyAvail, released := r.keyPrev, pressCnt := 1 }

/-- INTERPRET: CHANGE_UPDATE, then KEY_CLASSIFY (R200). -/
def Regs.interpret (r : Regs) : Regs := r.changeUpdate.keyClassify

/-- The row INTERPRET (R200). -/
def execInterpret (s : State) : Host.Outcome State Fault Refusal := .next (s.mapRegs Regs.interpret)

/-- The row CHANGE_UPDATE (R201). -/
def execChangeUpdate (s : State) : Host.Outcome State Fault Refusal :=
  .next (s.mapRegs Regs.changeUpdate)

/-- The row KEY_CLASSIFY (R202). -/
def execKeyClassify (s : State) : Host.Outcome State Fault Refusal :=
  .next (s.mapRegs Regs.keyClassify)

/-! ## Queries over the snapshots -/

/-- Answer a query of one field of the status snapshot; an index that names none is refused (R80 (e)). -/
def answerStatus (i : Nat) (b : Option StatusBit) (s : State) : Host.Outcome State Fault Refusal :=
  match b with
  | some b => .next (s.answer (.bit (statusField Config.params s.regs b)))
  | none => .refused (.indexOutOfRange i)

/-- Answer a query of one field of the auxiliary snapshot, likewise. -/
def answerAux (i : Nat) (b : Option AuxBit) (s : State) : Host.Outcome State Fault Refusal :=
  match b with
  | some b => .next (s.answer (.bit (auxField Config.params s.regs b)))
  | none => .refused (.indexOutOfRange i)

/-- Q_ZONE_LIGHT i (R205). -/
def execQZoneLight (i : Nat) (s : State) : Host.Outcome State Fault Refusal :=
  answerStatus i (zoneField i) s

/-- Q_STATUS_LIGHT j (R206). -/
def execQStatusLight (j : Nat) (s : State) : Host.Outcome State Fault Refusal :=
  answerStatus j (lightField j) s

/-- Q_BEEP (R207). -/
def execQBeep (s : State) : Host.Outcome State Fault Refusal :=
  .next (s.answer (.bit (statusField Config.params s.regs .beep)))

/-- Q_PGM (R208). -/
def execQPgm (s : State) : Host.Outcome State Fault Refusal :=
  .next (s.answer (.bit (auxField Config.params s.regs .pgm)))

/-- Q_BTN b (R209). -/
def execQBtn (b : Nat) (s : State) : Host.Outcome State Fault Refusal :=
  answerAux b (buttonField b) s

/-- Q_ARMED (R210). -/
def execQArmed (s : State) : Host.Outcome State Fault Refusal :=
  .next (s.answer (.bit (auxField Config.params s.regs .armed)))

/-- Q_ARMED_BYPASS (R211). -/
def execQArmedBypass (s : State) : Host.Outcome State Fault Refusal :=
  .next (s.answer (.bit (auxField Config.params s.regs .armedBypass)))

/-- Q_TROUBLE (R212). -/
def execQTrouble (s : State) : Host.Outcome State Fault Refusal :=
  .next (s.answer (.bit (auxField Config.params s.regs .trouble)))

/-- Q_FIRE_LATCHED (R213). -/
def execQFireLatched (s : State) : Host.Outcome State Fault Refusal :=
  .next (s.answer (.bit (auxField Config.params s.regs .fireLatched)))

/-- Q_ZONE_TRIPPED i (R214). -/
def execQZoneTripped (i : Nat) (s : State) : Host.Outcome State Fault Refusal :=
  answerAux i (trippedField i) s

/-- Q_ANY_TRIPPED_ARMED (R215). -/
def execQAnyTrippedArmed (s : State) : Host.Outcome State Fault Refusal :=
  .next (s.answer (.bit (anyTrippedArmed Config.params s.regs)))

end Sys2Proof.Machine
end

