-- ==== Sys2Proof/Machine/TickReceive.lean ====
section
/-! DEFINITION. Machine/TickReceive.lean: the receive steps of TICK (41_tick_receive.md): KEYSAMPLE,
STAMP, BITSHIFT, COMPLETE and BEEP_UPDATE.

`Regs.<step>` is the body of the one rule that defines the step (00_scope.md R7), which TICK runs under
the conditions of 40_tick_sync.md R100. `exec<Step>` is the step as an operation of its own, the row
of the table: the body run once on the registers (log 4). -/

namespace Sys2Proof.Machine

/-- KEYSAMPLE: `KEY_ACC <- KEY_ACC | ((~data2) << (7 - POS))` (R120, R73). -/
def Regs.keySample (r : Regs) (data2 : Level) : Regs :=
  { r with keyAcc := r.keyAcc ||| placeBit 7 (!data2) (keyPlace r.pos) }

/-- STAMP: `IDLE_T <- now` (R121). -/
def Regs.stamp (r : Regs) (now : Timestamp) : Regs := { r with idleT := now }

/-- BITSHIFT: one bit into each of the two 16-bit accumulators, then `POS <- POS + 1` (R122, R71, R72). -/
def Regs.bitShift (r : Regs) (data aux : Level) : Regs :=
  { r with
    stAcc := r.stAcc ||| placeBit 16 data (wordPlace r.pos)
    auxAcc := r.auxAcc ||| placeBit 16 aux (wordPlace r.pos)
    pos := r.pos + 1 }

/-- BEEP_UPDATE: count one more frame with the beep bit, or start again at 0 (R124, R28). -/
def Regs.beepUpdate (p : Params) (r : Regs) : Regs :=
  { r with beepCnt := if statusField p r .beep then satInc r.beepCnt else 0 }

/-- COMPLETE's five copies (R123, first part): the old snapshots go to the `_PREV` registers, the
accumulators to the snapshots. The accumulators keep their values (R125). -/
def Regs.takeSnapshots (r : Regs) : Regs :=
  { r with
    stPrev := r.stAvail
    keyPrev := r.keyAvail
    stAvail := r.stAcc
    auxAvail := r.auxAcc
    keyAvail := r.keyAcc }

/-- COMPLETE's last three writes (R123): the frame is done, synchronization is dropped. -/
def Regs.endFrame (r : Regs) : Regs :=
  { r with frameDone := true, sync := false, pos := 0 }

/-- COMPLETE: the snapshots, BEEP_UPDATE, the end of the frame (R123). -/
def Regs.complete (p : Params) (r : Regs) : Regs :=
  (r.takeSnapshots.beepUpdate p).endFrame

/-- The row KEYSAMPLE (R120). -/
def execKeySample (data2 : Level) (s : State) : Host.Outcome State Fault Refusal :=
  .next (s.mapRegs fun r => r.keySample data2)

/-- The row STAMP (R121). -/
def execStamp (now : Timestamp) (s : State) : Host.Outcome State Fault Refusal :=
  .next (s.mapRegs fun r => r.stamp now)

/-- The row BITSHIFT (R122). -/
def execBitShift (data aux : Level) (s : State) : Host.Outcome State Fault Refusal :=
  .next (s.mapRegs fun r => r.bitShift data aux)

/-- The row COMPLETE (R123). -/
def execComplete (s : State) : Host.Outcome State Fault Refusal :=
  .next (s.mapRegs (Regs.complete Config.params))

/-- The row BEEP_UPDATE (R124). -/
def execBeepUpdate (s : State) : Host.Outcome State Fault Refusal :=
  .next (s.mapRegs (Regs.beepUpdate Config.params))

end Sys2Proof.Machine
end

