-- ==== Sys2Proof/Machine/TickTransmit.lean ====
section
/-! DEFINITION. Machine/TickTransmit.lean: the transmit steps of TICK (42_tick_transmit.md): FIRSTBIT,
RELEASE, TXEND, TXSLOT and HOLD_COUNTDOWN, in the form of Machine/TickReceive.lean. -/

namespace Sys2Proof.Machine

/-- FIRSTBIT: pick up a pending request, or count a quiet frame; the quiet arm leaves `TX_ACTIVE`
alone (R140). -/
def Regs.firstBit (r : Regs) : Regs :=
  if pending r then { r with txActive := true, txCur := 0, quietCnt := 0 }
  else { r with quietCnt := satInc r.quietCnt }

/-- RELEASE: `DRIVE_LOW <- 0` (R141). -/
def Regs.release (r : Regs) : Regs := { r with driveLow := false }

/-- TXEND: `TX_ACTIVE <- 0`; the request and the cursor stay (R142). -/
def Regs.txEnd (r : Regs) : Regs := { r with txActive := false }

/-- HOLD_COUNTDOWN: one hold-cycle less; at none left the request is cleared (R144). -/
def Regs.holdCountdown (r : Regs) : Regs :=
  { r with
    txHold := r.txHold - 1
    txCode := if r.txHold - 1 = 0 then 0 else r.txCode }

/-- The first two writes of TXSLOT: drive the line low for a set bit, move the cursor (R143). -/
def Regs.driveSlot (r : Regs) : Regs :=
  { r with
    driveLow := if r.txCode.getLsbD (slotPlace r.txCur) then true else r.driveLow
    txCur := r.txCur + 1 }

/-- TXSLOT: give the next bit its slot, and count the hold down after the seventh (R143, R144). -/
def Regs.txSlot (r : Regs) : Regs :=
  if r.driveSlot.txCur.toNat = Config.keyBits then r.driveSlot.holdCountdown else r.driveSlot

/-- The row FIRSTBIT (R140). -/
def execFirstBit (s : State) : Host.Outcome State Fault Refusal := .next (s.mapRegs Regs.firstBit)

/-- The row RELEASE (R141). -/
def execRelease (s : State) : Host.Outcome State Fault Refusal := .next (s.mapRegs Regs.release)

/-- The row TXEND (R142). -/
def execTxEnd (s : State) : Host.Outcome State Fault Refusal := .next (s.mapRegs Regs.txEnd)

/-- The row TXSLOT (R143). -/
def execTxSlot (s : State) : Host.Outcome State Fault Refusal := .next (s.mapRegs Regs.txSlot)

/-- The row HOLD_COUNTDOWN (R144). -/
def execHoldCountdown (s : State) : Host.Outcome State Fault Refusal :=
  .next (s.mapRegs Regs.holdCountdown)

end Sys2Proof.Machine
end

