-- ==== Sys2Proof/Machine/TickSync.lean ====
section
/-! DEFINITION. Machine/TickSync.lean: the TICK operation as a whole (40_tick_sync.md R100), its steps
that belong to no stream (CLEARDONE, RESYNC, SAVECLK), and its four dispatch cases. -/

namespace Sys2Proof.Machine

/-- CLEARDONE: `FRAME_DONE <- 0` (R102). -/
def Regs.clearDone (r : Regs) : Regs := { r with frameDone := false }

/-- RESYNC: declare synchronized, Frame Position and the three accumulators to 0, nothing else (R104). -/
def Regs.resync (r : Regs) : Regs :=
  { r with sync := true, pos := 0, stAcc := 0, auxAcc := 0, keyAcc := 0 }

/-- SAVECLK: `EDGE_MEM <- clk` (R110). -/
def Regs.saveClk (r : Regs) (clk : Level) : Regs := { r with edgeMem := clk }

/-- Step 3 of TICK: RESYNC if the clock is high and the idle time in the window (R100, R104). -/
def Regs.gapTest (x : LineSample) (r : Regs) : Regs :=
  if x.clk && inGap r x.now then r.resync else r

/-- Step 4 of TICK, the falling-edge branch: KEYSAMPLE if `1 <= POS <= 7` (R100, R108). -/
def Regs.fallBranch (x : LineSample) (r : Regs) : Regs :=
  if inKeyWindow r then r.keySample x.data2 else r

/-- The receive part of the rising-edge branch with `SYNC = 1`: BITSHIFT, and FIRSTBIT if the position
was 0 before it (R100). -/
def Regs.shiftPart (x : LineSample) (r : Regs) : Regs :=
  if r.pos = 0 then (r.bitShift x.data x.aux).firstBit else r.bitShift x.data x.aux

/-- TXEND if `POS >= 8` (R100, R142). -/
def Regs.endPart (r : Regs) : Regs := if atTxEnd r then r.txEnd else r

/-- TXSLOT if `TX_ACTIVE = 1` and `TX_CUR < 7` (R100, R143). -/
def Regs.slotPart (r : Regs) : Regs := if hasSlot r then r.txSlot else r

/-- COMPLETE and INTERPRET if `POS = 16` (R100, R123, R200). -/
def Regs.completePart (p : Params) (r : Regs) : Regs :=
  if atFrameEnd r then (r.complete p).interpret else r

/-- Steps 5 and 6 of TICK, the rising-edge branch (R100, R109). `SYNC` is read once, after STAMP and
before BITSHIFT: the value `shifted` of R100. -/
def Regs.riseBranch (p : Params) (x : LineSample) (r : Regs) : Regs :=
  if r.sync then
    ((((r.stamp x.now).shiftPart x).release.endPart).slotPart).completePart p
  else (r.stamp x.now).release

/-- The edge branches of TICK: a falling edge, a rising edge, or neither (R100, R105). -/
def Regs.edgeBranch (p : Params) (x : LineSample) (r : Regs) : Regs :=
  if isFall r x.clk then r.fallBranch x
  else if isRise r x.clk then r.riseBranch p x
  else r

/-- TICK (R100): CLEARDONE, the gap test, the edge branch, SAVECLK. `idle` is computed from `IDLE_T`
before STAMP can change it (R103): the gap test stands before the edge branch, and CLEARDONE does not
write `IDLE_T`. -/
def Regs.tick (p : Params) (x : LineSample) (r : Regs) : Regs :=
  (((r.clearDone).gapTest x).edgeBranch p x).saveClk x.clk

/-- A TICK as a step of the machine: the registers, and no result (R100 "Result: none"; log 8). -/
def State.tick (x : LineSample) (s : State) : State :=
  (s.mapRegs (Regs.tick Config.params x)).answer .noResult

/-- The row TICK (R100). -/
def execTick (clk data aux data2 : Level) (now : Timestamp) (s : State) :
    Host.Outcome State Fault Refusal :=
  .next (s.tick ⟨clk, data, aux, data2, now⟩)

/-! The four cases fix `clk`; which edge a TICK is, `EDGE_MEM` decides (R105). An execution meets a case
only in a state with its `EDGE_MEM` (log 3); anywhere else a case row is still the TICK with its `clk`
(log 5). -/

/-- The row TICK.LOW (R106). -/
def execTickLow (data aux data2 : Level) (now : Timestamp) (s : State) :
    Host.Outcome State Fault Refusal :=
  .next (s.tick ⟨false, data, aux, data2, now⟩)

/-- The row TICK.RISE (R109). -/
def execTickRise (data aux data2 : Level) (now : Timestamp) (s : State) :
    Host.Outcome State Fault Refusal :=
  .next (s.tick ⟨true, data, aux, data2, now⟩)

/-- The row TICK.FALL (R108). -/
def execTickFall (data aux data2 : Level) (now : Timestamp) (s : State) :
    Host.Outcome State Fault Refusal :=
  .next (s.tick ⟨false, data, aux, data2, now⟩)

/-- The row TICK.HIGH (R107). -/
def execTickHigh (data aux data2 : Level) (now : Timestamp) (s : State) :
    Host.Outcome State Fault Refusal :=
  .next (s.tick ⟨true, data, aux, data2, now⟩)

/-- The row CLEARDONE (R102). -/
def execClearDone (s : State) : Host.Outcome State Fault Refusal := .next (s.mapRegs Regs.clearDone)

/-- The row RESYNC (R104). -/
def execResync (s : State) : Host.Outcome State Fault Refusal := .next (s.mapRegs Regs.resync)

/-- The row SAVECLK (R110). -/
def execSaveClk (clk : Level) (s : State) : Host.Outcome State Fault Refusal :=
  .next (s.mapRegs fun r => r.saveClk clk)

end Sys2Proof.Machine
end

