-- ==== Sys2Proof/Machine/HostOps.lean ====
section
/-! DEFINITION. Machine/HostOps.lean: the operations the host issues (43_host_ops.md): RESET, SEND_KEY,
the queries on the engine's own state, WAIT_FRAME. -/

namespace Sys2Proof.Machine

/-- The request an accepted SEND_KEY leaves: `TX_CODE`, `TX_HOLD`, `TX_CUR`, nothing else (R161). -/
def Regs.request (p : Params) (sym : Symbol) (n : Nat) (r : Regs) : Regs :=
  { r with txCode := encodeSymbol p sym, txHold := BitVec.ofNat 8 n, txCur := 0 }

/-- SEND_KEY: accept and write the request, or reject with no register changed (R161). -/
def State.sendKey (p : Params) (sym : Symbol) (n : Nat) (s : State) : State :=
  if accepts p sym n s.regs then (s.mapRegs (Regs.request p sym n)).answer .accept
  else s.answer .reject

/-- The row SEND_KEY (R161). An `N` that `HOLD_W = 8` bits do not hold is outside the interface (U17). -/
def execSendKey (sym : Symbol) (n : Nat) (s : State) : Host.Outcome State Fault Refusal :=
  if n < 2 ^ 8 then .next (s.sendKey Config.params sym n) else .refused (.holdOutOfRange n)

/-- The row RESET (R160): every register 0, no result. The host's later events stay issued. -/
def execReset (s : State) : Host.Outcome State Fault Refusal :=
  .next ((s.mapRegs fun _ => Regs.reset).answer .noResult)

/-- Q_READY (R162). -/
def execQReady (s : State) : Host.Outcome State Fault Refusal :=
  .next (s.answer (.bit (ready Config.params s.regs)))

/-- Q_FRAME_DONE (R163). -/
def execQFrameDone (s : State) : Host.Outcome State Fault Refusal :=
  .next (s.answer (.bit s.regs.frameDone))

/-- Q_CHANGED (R164). -/
def execQChanged (s : State) : Host.Outcome State Fault Refusal :=
  .next (s.answer (.bit s.regs.changed))

/-- Q_PRESSED: `DECODE(PRESSED)` (R165). -/
def execQPressed (s : State) : Host.Outcome State Fault Refusal :=
  .next (s.answer (.symbol (decodeKey Config.params s.regs.pressed)))

/-- Q_RELEASED: `DECODE(RELEASED)` (R166). -/
def execQReleased (s : State) : Host.Outcome State Fault Refusal :=
  .next (s.answer (.symbol (decodeKey Config.params s.regs.released)))

/-- Q_PRESS_CNT (R167). -/
def execQPressCnt (s : State) : Host.Outcome State Fault Refusal :=
  .next (s.answer (.count s.regs.pressCnt))

/-- Q_BEEP_CNT (R168). -/
def execQBeepCnt (s : State) : Host.Outcome State Fault Refusal :=
  .next (s.answer (.count s.regs.beepCnt))

/-- One poll of a WAIT_FRAME: the next inputs from the environment, one TICK (R169). -/
def State.poll (s : State) : State := (nextSample s).2.tick (nextSample s).1

/-- The row WAIT_FRAME (R169): one TICK, and the same again "until FRAME_DONE = 1". A step runs one poll,
since each TICK is atomic and others of the host's events wait (R271); if no frame completed, WAIT_FRAME
is the next event again. On a bus that completes no frame it never returns (U16; log 9). -/
def execWaitFrame (s : State) : Host.Outcome State Fault Refusal :=
  .next (if s.poll.regs.frameDone then s.poll else again .waitFrame s.poll)

end Sys2Proof.Machine
end

