-- ==== Sys2Proof/Machine/Dispatch.lean ====
section
/-! DEFINITION. Machine/Dispatch.lean: the one dispatch of the machine, one arm for each row of
spec/opcode_table.json. -/

namespace Sys2Proof.Machine

def exec (i : Instr) (s : State) : Host.Outcome State Fault Refusal :=
  match i with
  | .tick clk data aux data2 now => Sys2Proof.Machine.execTick clk data aux data2 now s
  | .tickLow data aux data2 now => Sys2Proof.Machine.execTickLow data aux data2 now s
  | .tickRise data aux data2 now => Sys2Proof.Machine.execTickRise data aux data2 now s
  | .tickFall data aux data2 now => Sys2Proof.Machine.execTickFall data aux data2 now s
  | .tickHigh data aux data2 now => Sys2Proof.Machine.execTickHigh data aux data2 now s
  | .clearDone => Sys2Proof.Machine.execClearDone s
  | .resync => Sys2Proof.Machine.execResync s
  | .keySample data2 => Sys2Proof.Machine.execKeySample data2 s
  | .stamp now => Sys2Proof.Machine.execStamp now s
  | .bitShift data aux => Sys2Proof.Machine.execBitShift data aux s
  | .firstBit => Sys2Proof.Machine.execFirstBit s
  | .release => Sys2Proof.Machine.execRelease s
  | .txEnd => Sys2Proof.Machine.execTxEnd s
  | .txSlot => Sys2Proof.Machine.execTxSlot s
  | .holdCountdown => Sys2Proof.Machine.execHoldCountdown s
  | .complete => Sys2Proof.Machine.execComplete s
  | .beepUpdate => Sys2Proof.Machine.execBeepUpdate s
  | .interpret => Sys2Proof.Machine.execInterpret s
  | .changeUpdate => Sys2Proof.Machine.execChangeUpdate s
  | .keyClassify => Sys2Proof.Machine.execKeyClassify s
  | .saveClk clk => Sys2Proof.Machine.execSaveClk clk s
  | .sendKey sym n => Sys2Proof.Machine.execSendKey sym n s
  | .qReady => Sys2Proof.Machine.execQReady s
  | .qFrameDone => Sys2Proof.Machine.execQFrameDone s
  | .qChanged => Sys2Proof.Machine.execQChanged s
  | .qPressed => Sys2Proof.Machine.execQPressed s
  | .qReleased => Sys2Proof.Machine.execQReleased s
  | .qPressCnt => Sys2Proof.Machine.execQPressCnt s
  | .qBeepCnt => Sys2Proof.Machine.execQBeepCnt s
  | .qZoneLight k => Sys2Proof.Machine.execQZoneLight k s
  | .qStatusLight k => Sys2Proof.Machine.execQStatusLight k s
  | .qBeep => Sys2Proof.Machine.execQBeep s
  | .qPgm => Sys2Proof.Machine.execQPgm s
  | .qBtn k => Sys2Proof.Machine.execQBtn k s
  | .qArmed => Sys2Proof.Machine.execQArmed s
  | .qArmedBypass => Sys2Proof.Machine.execQArmedBypass s
  | .qTrouble => Sys2Proof.Machine.execQTrouble s
  | .qFireLatched => Sys2Proof.Machine.execQFireLatched s
  | .qZoneTripped k => Sys2Proof.Machine.execQZoneTripped k s
  | .qAnyTrippedArmed => Sys2Proof.Machine.execQAnyTrippedArmed s
  | .waitFrame => Sys2Proof.Machine.execWaitFrame s
  | .reset => Sys2Proof.Machine.execReset s

end Sys2Proof.Machine
end

