-- ==== Sys2Proof/Machine/Step.lean ====
section
/-! DEFINITION. Machine/Step.lean: one step of the machine. An execution is a sequence of events
(00_scope.md R8, 20_memory.md R59): a step takes the first event the host has issued and runs it
whole. With no event issued nothing happens and the block keeps its state (R59, R245). -/

namespace Sys2Proof.Machine

/-- One step (R8, R59). -/
def step (s : State) : Host.Outcome State Fault Refusal :=
  match fetch s with
  | none => .next s
  | some (r, t) =>
    match decode r with
    | .ok i => exec i t
    | .error why => .refused (.notAnEvent why)

/-- `s` with the event whose table word is `w` where the next step fetches it (log 1, log 3). -/
def State.withFetchWord (s : State) (nbits w : Nat) : State :=
  placeRecord s (PortRecord.ofTableWord nbits w)

end Sys2Proof.Machine
end

