-- ==== Sys2Proof/Safety.lean ====
section
/-! DEFINITION. Safety.lean: what counts as a good state and a good run, in the terms the statements
use. -/

namespace Sys2Proof.Machine

/-- The next state an outcome holds, if it is one. -/
def nextState? : Host.Outcome State Fault Refusal → Option State
  | .next t => some t
  | .fault _ => none
  | .refused _ => none

/-- The invariants of 10_state.md R33 that speak of control: items 1 to 5, 7, 9, 10 and 11. Item 6 is the
width of `TX_CUR`; item 8 is `Regs.Unwritten`. -/
structure Regs.Inv (r : Regs) : Prop where
  /-- Item 1. -/
  pos_le : r.pos.toNat ≤ 15
  /-- Item 2, and with it item 7. -/
  unsync_pos : r.sync = false → r.pos = 0
  /-- Item 3. -/
  unsync_drive : r.sync = false → r.driveLow = false
  /-- Item 4. -/
  drive_active : r.driveLow = true → r.txActive = true
  /-- Item 5, first half. -/
  pending_hold : r.txCode ≠ 0 → r.txHold ≠ 0
  /-- Item 5, second half. -/
  idle_hold : r.txCode = 0 → r.txHold = 0
  /-- Item 9. -/
  slots_pending : r.txActive = true → r.txCur.toNat < 7 → r.txCode ≠ 0
  /-- Item 10. -/
  late_inactive : 8 ≤ r.pos.toNat → r.txActive = false
  /-- Item 11. -/
  unsync_inactive : r.sync = false → r.txActive = false

/-- R33 item 8 as a property of one state: while synchronized, no bit that the rest of the frame will
write has been written yet, so that OR-ing it in and writing it give the same. With the clock last
seen high the keypad bit of the present position is still to come. -/
structure Regs.Unwritten (r : Regs) : Prop where
  status_clear : r.sync = true → ∀ i, i + r.pos.toNat < 16 → r.stAcc.getLsbD i = false
  aux_clear : r.sync = true → ∀ i, i + r.pos.toNat < 16 → r.auxAcc.getLsbD i = false
  key_clear : r.sync = true → ∀ i, i + r.pos.toNat < 7 → r.keyAcc.getLsbD i = false
  key_coming : r.sync = true → r.edgeMem = true → ∀ i, i + r.pos.toNat = 7 → r.keyAcc.getLsbD i = false

/-- What the derived registers say of the snapshots between two operations: `CHANGED` (R201), the three
press and release registers (R202), the beep counter (R124, R207). -/
structure Regs.Derived (p : Params) (r : Regs) : Prop where
  changed_iff : r.changed = true ↔ r.stAvail ≠ r.stPrev
  pressed_eq : r.pressed = r.keyAvail
  released_eq : r.released = if r.keyPrev ≠ 0 ∧ r.keyAvail ≠ r.keyPrev then r.keyPrev else 0
  pressCnt_iff : r.pressCnt ≠ 0 ↔ r.keyAvail ≠ 0
  beepCnt_iff : r.beepCnt ≠ 0 ↔ r.stAvail &&& p.statusMask .beep ≠ 0

/-- A pending code is an entry of the Key Code Table (R24, R161). -/
def Regs.CodeInTable (p : Params) (r : Regs) : Prop :=
  r.txCode = 0 ∨ ∃ k, r.txCode = p.keyCode k

/-- At time `now` the clock has been without a rising edge for 25000 to 28000 microseconds, both included,
as the block measures it: modulo `2^32` (R74, R103, R104). -/
abbrev Regs.gapAt (r : Regs) (now : Timestamp) : Prop :=
  25000 ≤ (now - r.idleT).toNat ∧ (now - r.idleT).toNat ≤ 28000

/-- Run rows of the operation table one after another, stopping at the first that gives no next
state. -/
def runRows : List Instr → State → Host.Outcome State Fault Refusal
  | [], s => .next s
  | i :: rest, s =>
    match exec i s with
    | .next t => runRows rest t
    | .fault f => .fault f
    | .refused why => .refused why

/-- After `k` slots of a frame, the two 16-bit accumulators hold the first `k` bits of the words `st`
and `ax`, most significant first, and nothing else (R13, R14, R71, R72). -/
structure Regs.HoldsSlots (st ax : Word) (k : Nat) (r : Regs) : Prop where
  synced : r.sync = true
  at_pos : r.pos.toNat = k
  status : ∀ i, i < 16 → r.stAcc.getLsbD i = (decide (16 ≤ i + k) && st.getLsbD i)
  aux : ∀ i, i < 16 → r.auxAcc.getLsbD i = (decide (16 ≤ i + k) && ax.getLsbD i)

end Sys2Proof.Machine
end

