-- ==== Sys2Proof/Certificates/Slice0/Obligations.lean ====
section
/-! DEFINITION. Certificates/Slice0/Obligations.lean: the statements for the provers. Each says in its
docstring which rule of spec/ it formalises; where it rests on a decision or an inference that the spec
marks as its own, or on a choice of the model, the docstring says so. Throughout, `script` is the list of
events the host has issued (log 1), `result` what the host port last gave out (log 8), and the event
words that single out a command are those of R79's tabulation (decision D14). Timestamps are 32 bits and
subtract modulo `2^32` (D1), `N` is below 256 (D2), and the three counters have 16 bits (D3). -/

open Sys2Proof Sys2Proof.Machine

/-! ## Event words -/

/-- Every event, with every operand the interface admits, is read back from its record (R79; the
tabulation is the spec's decision D14, the operand wires and the character of a symbol the model's
choices, log 2 and log 11). -/
def Obligations.DecodeEncodeRoundTrip : Prop :=
  ∀ i : Instr, i.wf = true → i.isEvent = true → decode (encode i) = .ok i

/-- What the decoder answers is an event with admitted operands, and has the event word that was read: no
two words mean one operation, and no word means a sub-operation (R79, decision D14). -/
def Obligations.DecodedRecordsAreEvents : Prop :=
  ∀ (r : PortRecord) (i : Instr), decode r = .ok i →
    i.wf = true ∧ i.isEvent = true ∧ (encode i).ev = r.ev

/-- Exactly the words outside the tabulation and the operands out of range are refused (R80 (d), (e);
93: U17; decision D14). The places of `N` and of the index, and the index being the port's wires plus 1,
are the model's choice (log 2). -/
def Obligations.DecodeRefusesExactlyTheReserved : Prop :=
  ∀ r : PortRecord, (∃ why, decode r = .error why) ↔
    (4 ≤ r.ev.toNat ∧ r.ev.toNat < 32) ∨ (52 ≤ r.ev.toNat ∧ r.ev.toNat < 64) ∨ 64 < r.ev.toNat ∨
    (r.ev = 0x20#7 ∧ 256 ≤ r.hold) ∨ ((r.ev = 0x28#7 ∨ r.ev = 0x31#7) ∧ 6 < r.index) ∨
    (r.ev = 0x29#7 ∧ 5 < r.index) ∨ (r.ev = 0x2C#7 ∧ 3 < r.index)

/-- Seven events and one reserved word, written out as records. The event words are the tabulation's (R79,
the spec's decision D14). R79 gives operands no places: that `data`, `aux`, `data2` stand on wires 0 to 2,
`now` on wires 39 to 8, the symbol on wires 7 to 0, `N` on wires 23 to 8 and an index less 1 on wires 7
to 0 is the model's DESIGN CHOICE of log 2, and the character of a symbol that of log 11. -/
def Obligations.SampleWordsDecode : Prop :=
  decode ⟨0b0000001#7, 0x0000C35005#40⟩ = .ok (.tickRise true false true 50000#32) ∧
  decode ⟨0b0000010#7, 0x0000C35002#40⟩ = .ok (.tickFall false true false 50000#32) ∧
  decode ⟨0b0100000#7, 0x0000000335#40⟩ = .ok (.sendKey (.key .d5) 3) ∧
  decode ⟨0b0100100#7, 0#40⟩ = .ok .qPressed ∧
  decode ⟨0b0110001#7, 5#40⟩ = .ok (.qZoneTripped 6) ∧
  decode ⟨0b0110011#7, 0#40⟩ = .ok .waitFrame ∧
  decode ⟨0b1000000#7, 0#40⟩ = .ok .reset ∧
  decode ⟨0b1100000#7, 0#40⟩ = .error .reservedClass

/-- The word of a sub-operation is the word of a tick: what is decoded from it is one of the four TICK
cases, never the sub-operation (R79 "a SUBOP row is a part of a TICK"; decision D14). -/
def Obligations.SubOperationWordsAreTicks : Prop :=
  ∀ (i : Instr) (e : Level), i.isEvent = false →
    ∃ data aux data2 now,
      decode { encode i with ev := eventWord e (encode i).ev } = .ok (.tickLow data aux data2 now) ∨
      decode { encode i with ev := eventWord e (encode i).ev } = .ok (.tickRise data aux data2 now) ∨
      decode { encode i with ev := eventWord e (encode i).ev } = .ok (.tickFall data aux data2 now) ∨
      decode { encode i with ev := eventWord e (encode i).ev } = .ok (.tickHigh data aux data2 now)

/-! ## The step -/

/-- A step takes the first event the host has issued and runs the operation decoded from it, in the state
that no longer holds the event; with no event issued nothing changes (R8, R59; the queue is the model's,
log 1). The record is decoded with bit 1 of a class 00 word (a TICK's bit `e`) read from `EDGE_MEM`, since
R79 calls that bit state and no input (DEDUCED, log 3). A record that is no event is refused by name
(R79, R80 (d), decision D14; the refusal's name is the model's choice, log 12). -/
def Obligations.StepRunsTheDecodedEvent : Prop :=
  (∀ (s : State) (r : PortRecord) (rest : List PortRecord) (i : Instr), s.script = r :: rest →
    decode { r with ev := eventWord s.regs.edgeMem r.ev } = .ok i →
    step s = exec i { s with script := rest }) ∧
  (∀ (s : State) (r : PortRecord) (rest : List PortRecord) (why : Reject), s.script = r :: rest →
    decode { r with ev := eventWord s.regs.edgeMem r.ev } = .error why →
    step s = .refused (.notAnEvent why)) ∧
  (∀ s : State, s.script = [] → step s = .next s)

/-- The record of a TICK, issued in any state, runs the whole TICK, whichever of its four cases the state
makes it (R100; R105 to R109; R79: bit `e` is `EDGE_MEM`; the record is the model's, log 2; the bit read
from `EDGE_MEM` and the shared words are DEDUCED, log 3, log 5). -/
def Obligations.TickEventRunsTick : Prop :=
  ∀ (clk data aux data2 : Level) (now : Timestamp) (s : State) (rest : List PortRecord),
    s.script = encode (.tick clk data aux data2 now) :: rest →
    step s = exec (.tick clk data aux data2 now) { s with script := rest }

/-- Every event runs to its end in every state: a step gives a next state, unless what the host put at
the port is no event; no step faults (R230, R80 (d); decision D14; one step of WAIT_FRAME is one TICK,
log 9; bit 1 of a tick's word is read from `EDGE_MEM`, log 3; the refusal's name is log 12's). -/
def Obligations.EveryEventRunsToItsEnd : Prop :=
  ∀ s : State, (∃ t, step s = .next t) ∨
    ∃ r rest why, s.script = r :: rest ∧
      decode { r with ev := eventWord s.regs.edgeMem r.ev } = .error why ∧
      step s = .refused (.notAnEvent why)

/-! ## TICK and its cases -/

/-- TICK is the sequence of its sub-operations, each under its condition of R78, in the order of R100
(which rests on decisions D5 and D6; TXEND before TXSLOT and its guard `TX_CUR < 7` on D18). The
conditions are here worked out from the state before the TICK. That the row of a sub-operation is the body
of its procedure, run by itself, is DEDUCED (log 4). -/
def Obligations.TickIsItsSubOperations : Prop :=
  ∀ (clk data aux data2 : Level) (now : Timestamp) (s : State),
    let gap := decide (clk = true ∧ s.regs.gapAt now)
    let p := if gap then 0 else s.regs.pos.toNat
    let synced := gap || s.regs.sync
    let active := if p = 0 ∧ s.regs.txCode ≠ 0 then true
      else s.regs.txActive && decide (s.regs.txCur.toNat < 7)
    let rows : List Instr :=
      [.clearDone] ++ (if gap then [.resync] else []) ++
      (if s.regs.edgeMem = true ∧ clk = false then
        (if 1 ≤ p ∧ p ≤ 7 then [.keySample data2] else [])
      else if s.regs.edgeMem = false ∧ clk = true then
        [.stamp now] ++ (if synced then [.bitShift data aux] else []) ++
        (if synced ∧ p = 0 then [.firstBit] else []) ++ [.release] ++
        (if synced ∧ 7 ≤ p then [.txEnd] else []) ++
        (if synced ∧ p < 7 ∧ active then [.txSlot] else []) ++
        (if synced ∧ p = 15 then [.complete, .interpret] else [])
      else []) ++ [.saveClk clk]
    p ≤ 15 →
    ∃ t, runRows rows s = .next t ∧
      exec (.tick clk data aux data2 now) s = .next { t with result := .noResult }

/-- TICK.LOW changes nothing but `FRAME_DONE` (R106, which the spec derives from R100; R102 with its
decision D6). -/
def Obligations.TickLowOnlyClearsFrameDone : Prop :=
  ∀ (data aux data2 : Level) (now : Timestamp) (s : State), s.regs.edgeMem = false →
    exec (.tickLow data aux data2 now) s =
      .next { s with result := .noResult, regs := { s.regs with frameDone := false } }

/-- TICK.FALL writes `FRAME_DONE`, `EDGE_MEM` and one keypad bit, the inverted second sample, at
`7 - POS` when `1 <= POS <= 7` (R108; R102 with its decision D6; R120 with its decisions
D10, D13, D20). -/
def Obligations.TickFallSamplesOneKeypadBit : Prop :=
  ∀ (data aux data2 : Level) (now : Timestamp) (s : State), s.regs.edgeMem = true →
    ∃ t, exec (.tickFall data aux data2 now) s = .next t ∧
      t = { s with result := .noResult, regs := { s.regs with
              frameDone := false, edgeMem := false, keyAcc := t.regs.keyAcc } } ∧
      ∀ i, i < 7 → t.regs.keyAcc.getLsbD i =
        (s.regs.keyAcc.getLsbD i || (decide (i + s.regs.pos.toNat = 7) && !data2))

/-- TICK.HIGH runs RESYNC if the idle time is in the window, and else changes nothing but `FRAME_DONE`
(R107, which the spec derives from R100 and R104; decisions D6, and D18 for `TX_ACTIVE`, which RESYNC
leaves alone). -/
def Obligations.TickHighRunsOnlyTheGapTest : Prop :=
  ∀ (data aux data2 : Level) (now : Timestamp) (s : State), s.regs.edgeMem = true →
    exec (.tickHigh data aux data2 now) s =
      .next { s with result := .noResult, regs :=
        if 25000 ≤ (now - s.regs.idleT).toNat ∧ (now - s.regs.idleT).toNat ≤ 28000 then
          { s.regs with frameDone := false, sync := true, pos := 0, stAcc := 0, auxAcc := 0, keyAcc := 0 }
        else { s.regs with frameDone := false } }

/-- A rising edge without synchronization, outside the gap window, only stamps the time and releases the
line (R238 (a), R102 with decision D6, R109 with decision D5, R141 with decision D17). -/
def Obligations.UnsynchronizedRiseStampsAndReleases : Prop :=
  ∀ (data aux data2 : Level) (now : Timestamp) (s : State),
    s.regs.edgeMem = false → s.regs.sync = false → ¬ s.regs.gapAt now →
    exec (.tickRise data aux data2 now) s =
      .next { s with result := .noResult, regs := { s.regs with
                frameDone := false, idleT := now, driveLow := false, edgeMem := true } }

/-- A rising edge of a synchronized frame puts the data and auxiliary levels at bit `15 - POS` of their
accumulators and moves the position on; in the gap window the frame starts anew in the same tick; at
position 15 the frame ends and the accumulators stay (R71, R72, R104, R109, R122, R123, R125, R272;
decisions D5, D6, D19, D20). -/
def Obligations.RisingEdgeShiftsOneBit : Prop :=
  ∀ (data aux data2 : Level) (now : Timestamp) (s : State) (gap : Bool) (p : Nat),
    s.regs.edgeMem = false → (gap = true ↔ s.regs.gapAt now) → (gap = true ∨ s.regs.sync = true) →
    p = (if gap then 0 else s.regs.pos.toNat) → p ≤ 15 →
    ∃ t, exec (.tickRise data aux data2 now) s = .next t ∧
      t = { s with result := .noResult, regs := t.regs } ∧
      t.regs.idleT = now ∧ t.regs.edgeMem = true ∧
      t.regs.keyAcc = (if gap then 0 else s.regs.keyAcc) ∧
      (∀ i, i < 16 → t.regs.stAcc.getLsbD i =
        ((!gap && s.regs.stAcc.getLsbD i) || (decide (i + p = 15) && data))) ∧
      (∀ i, i < 16 → t.regs.auxAcc.getLsbD i =
        ((!gap && s.regs.auxAcc.getLsbD i) || (decide (i + p = 15) && aux))) ∧
      (if p = 15 then t.regs.pos = 0 ∧ t.regs.sync = false ∧ t.regs.frameDone = true
       else t.regs.pos.toNat = p + 1 ∧ t.regs.sync = true ∧ t.regs.frameDone = false ∧
        t.regs.stAvail = s.regs.stAvail ∧ t.regs.auxAvail = s.regs.auxAvail ∧
        t.regs.keyAvail = s.regs.keyAvail ∧ t.regs.stPrev = s.regs.stPrev ∧
        t.regs.keyPrev = s.regs.keyPrev ∧ t.regs.beepCnt = s.regs.beepCnt ∧
        t.regs.pressed = s.regs.pressed ∧ t.regs.released = s.regs.released ∧
        t.regs.pressCnt = s.regs.pressCnt ∧ t.regs.changed = s.regs.changed)

/-- The sixteenth rising edge publishes the frame: snapshots, previous snapshots, beep counter, CHANGED,
press and release, the request untouched, the line released, synchronization dropped (R123, R124,
R125, R141, R142, R200 to R202; decisions D3, D6, D18, D19, D21). -/
def Obligations.SixteenthEdgePublishesTheFrame : Prop :=
  ∀ (data aux data2 : Level) (now : Timestamp) (s : State),
    s.regs.edgeMem = false → s.regs.sync = true → s.regs.pos = 15 → ¬ s.regs.gapAt now →
    ∃ t, exec (.tickRise data aux data2 now) s = .next t ∧
      t = { s with result := .noResult, regs := { s.regs with
        pos := 0, sync := false, frameDone := true, edgeMem := true, idleT := now
        driveLow := false, txActive := false
        stAcc := t.regs.stAcc, auxAcc := t.regs.auxAcc
        stPrev := s.regs.stAvail, keyPrev := s.regs.keyAvail
        stAvail := t.regs.stAcc, auxAvail := t.regs.auxAcc, keyAvail := s.regs.keyAcc
        beepCnt := t.regs.beepCnt, changed := t.regs.changed, pressed := s.regs.keyAcc
        released := t.regs.released, pressCnt := t.regs.pressCnt } } ∧
      t.regs.beepCnt.toNat = (if t.regs.stAvail &&& Config.params.statusMask .beep = 0 then 0
        else min (s.regs.beepCnt.toNat + 1) 65535) ∧
      (t.regs.changed = true ↔ t.regs.stAvail ≠ s.regs.stAvail) ∧
      t.regs.released =
        (if s.regs.keyAvail ≠ 0 ∧ s.regs.keyAcc ≠ s.regs.keyAvail then s.regs.keyAvail else 0) ∧
      t.regs.pressCnt.toNat = (if s.regs.keyAcc = 0 then 0
        else if s.regs.keyAcc = s.regs.keyAvail then min (s.regs.pressCnt.toNat + 1) 65535 else 1)

/-- After a TICK `FRAME_DONE` says exactly whether that TICK completed a frame, and Q_FRAME_DONE answers
it; a TICK that completes none leaves the snapshots and all that is derived from them alone (R102, R163,
R171, R216; decision D6; D5 for the completion, which needs `SYNC`). -/
def Obligations.FrameDoneMarksCompletion : Prop :=
  ∀ (clk data aux data2 : Level) (now : Timestamp) (s : State),
    ∃ t, exec (.tick clk data aux data2 now) s = .next t ∧
      (t.regs.frameDone = true ↔ clk = true ∧ s.regs.edgeMem = false ∧ s.regs.sync = true ∧
        s.regs.pos = 15 ∧ ¬ s.regs.gapAt now) ∧
      exec .qFrameDone t = .next { t with result := .bit t.regs.frameDone } ∧
      (t.regs.frameDone = false →
        t.regs.stAvail = s.regs.stAvail ∧ t.regs.auxAvail = s.regs.auxAvail ∧
        t.regs.keyAvail = s.regs.keyAvail ∧ t.regs.stPrev = s.regs.stPrev ∧
        t.regs.keyPrev = s.regs.keyPrev ∧ t.regs.beepCnt = s.regs.beepCnt ∧
        t.regs.pressed = s.regs.pressed ∧ t.regs.released = s.regs.released ∧
        t.regs.pressCnt = s.regs.pressCnt ∧ t.regs.changed = s.regs.changed)

/-- When the test of step 3 passes, RESYNC runs whatever `EDGE_MEM`, `SYNC` and `POS` hold: the TICK does
what it would do after RESYNC (R104; decision D18 for `TX_ACTIVE`, which RESYNC leaves alone; the row
RESYNC run by itself is DEDUCED, log 4). When the clock is low or the idle time is outside the window, no
TICK sets `SYNC` or clears an accumulator bit (R104, R235). That no bit is cleared rests, log 7, on
decision D20, by which KEYSAMPLE and BITSHIFT OR their bit in (R120, R122), and at a TICK that completes a
frame on decision D19, by which COMPLETE keeps the accumulators (R125). -/
def Obligations.ResyncRunsExactlyInTheWindow : Prop :=
  (∀ (data aux data2 : Level) (now : Timestamp) (s : State), s.regs.gapAt now →
    ∃ u, exec .resync s = .next u ∧
      u = { s with regs := { s.regs with sync := true, pos := 0, stAcc := 0, auxAcc := 0, keyAcc := 0 } } ∧
      exec (.tick true data aux data2 now) s = exec (.tick true data aux data2 now) u) ∧
  (∀ (clk data aux data2 : Level) (now : Timestamp) (s : State), clk = false ∨ ¬ s.regs.gapAt now →
    ∃ t, exec (.tick clk data aux data2 now) s = .next t ∧
      (s.regs.sync = false → t.regs.sync = false) ∧
      (∀ i, s.regs.stAcc.getLsbD i = true → t.regs.stAcc.getLsbD i = true) ∧
      (∀ i, s.regs.auxAcc.getLsbD i = true → t.regs.auxAcc.getLsbD i = true) ∧
      (∀ i, s.regs.keyAcc.getLsbD i = true → t.regs.keyAcc.getLsbD i = true))

/-- A TICK sets `SYNC` exactly when it finds the clock high in the gap window, and clears it exactly when
it completes a frame; a host command other than WAIT_FRAME, which runs TICKs, and RESET leaves it (R12;
R104 for the gap window, R100, R109 and R123 for the completion at a rising edge with `POS` 15). Which
event words these commands have is R79's tabulation, the spec's decision D14 (log 7), and the queue they
are taken from is the model's choice (log 1). -/
def Obligations.SyncFollowsGapAndCompletion : Prop :=
  (∀ (clk data aux data2 : Level) (now : Timestamp) (s : State),
    ∃ t, exec (.tick clk data aux data2 now) s = .next t ∧
      (s.regs.sync = false → (t.regs.sync = true ↔ clk = true ∧ s.regs.gapAt now)) ∧
      (s.regs.sync = true → (t.regs.sync = false ↔
        clk = true ∧ s.regs.edgeMem = false ∧ s.regs.pos = 15 ∧ ¬ s.regs.gapAt now))) ∧
  (∀ (s t : State) (r : PortRecord) (rest : List PortRecord), s.script = r :: rest →
    0x20 ≤ r.ev.toNat → r.ev.toNat ≤ 0x32 → step s = .next t → t.regs.sync = s.regs.sync)

/-- Every TICK, in each of its four cases, leaves the clock level it was given in `EDGE_MEM`, and so does
the sub-operation SAVECLK, which writes nothing else (R110). That the row of a case is the whole TICK with
its clock level also in a state whose `EDGE_MEM` is not the case's is DEDUCED (log 5), and so is that the
row SAVECLK is its procedure's body run by itself (log 4). -/
def Obligations.EveryTickStoresItsClockLevel : Prop :=
  ∀ (data aux data2 : Level) (now : Timestamp) (s : State),
    (∀ clk, ∃ t, exec (.tick clk data aux data2 now) s = .next t ∧ t.regs.edgeMem = clk) ∧
    (∃ t, exec (.tickLow data aux data2 now) s = .next t ∧ t.regs.edgeMem = false) ∧
    (∃ t, exec (.tickRise data aux data2 now) s = .next t ∧ t.regs.edgeMem = true) ∧
    (∃ t, exec (.tickFall data aux data2 now) s = .next t ∧ t.regs.edgeMem = false) ∧
    (∃ t, exec (.tickHigh data aux data2 now) s = .next t ∧ t.regs.edgeMem = true) ∧
    (∀ clk, exec (.saveClk clk) s = .next { s with regs := { s.regs with edgeMem := clk } })

/-- The three snapshots change only when a frame completes, all in the same step, and then they are the
three accumulators (R16; RESET apart, which makes every register 0). That they equal the accumulators
after the step rests on decision D19, by which COMPLETE does not clear these, and that `SYNC` was set on D5
(R122, R125; log 7). -/
def Obligations.SnapshotsChangeOnlyAtCompletion : Prop :=
  ∀ s t : State, step s = .next t → (∀ r rest, s.script = r :: rest → r.ev ≠ 0x40#7) →
    (t.regs.stAvail = s.regs.stAvail ∧ t.regs.auxAvail = s.regs.auxAvail ∧
      t.regs.keyAvail = s.regs.keyAvail) ∨
    (t.regs.frameDone = true ∧ s.regs.sync = true ∧ s.regs.pos = 15 ∧
      t.regs.stAvail = t.regs.stAcc ∧ t.regs.auxAvail = t.regs.auxAcc ∧
      t.regs.keyAvail = t.regs.keyAcc)

/-! ## The sub-operations -/

/-- CLEARDONE, RESYNC and SAVECLK write what R102, R104 and R110 give them and nothing else (decisions D6,
and D18 for `TX_ACTIVE`, which RESYNC leaves alone; that each row is its procedure's body run by itself is
DEDUCED, log 4). -/
def Obligations.SyncStepsWriteTheirRegisters : Prop :=
  ∀ s : State,
    exec .clearDone s = .next { s with regs := { s.regs with frameDone := false } } ∧
    exec .resync s = .next { s with regs := { s.regs with
      sync := true, pos := 0, stAcc := 0, auxAcc := 0, keyAcc := 0 } } ∧
    ∀ clk, exec (.saveClk clk) s = .next { s with regs := { s.regs with edgeMem := clk } }

/-- KEYSAMPLE, STAMP and BITSHIFT, bit by bit, at the positions at which R100 runs them (R120, R121, R122;
decisions D5, D10, D13, D20; that each row is its procedure's body run by itself is DEDUCED, log 4). -/
def Obligations.ReceiveStepsPlaceTheirBits : Prop :=
  (∀ (data2 : Level) (s : State), 1 ≤ s.regs.pos.toNat → s.regs.pos.toNat ≤ 7 →
    ∃ t, exec (.keySample data2) s = .next t ∧
      t = { s with regs := { s.regs with keyAcc := t.regs.keyAcc } } ∧
      ∀ i, i < 7 → t.regs.keyAcc.getLsbD i =
        (s.regs.keyAcc.getLsbD i || (decide (i + s.regs.pos.toNat = 7) && !data2))) ∧
  (∀ (now : Timestamp) (s : State),
    exec (.stamp now) s = .next { s with regs := { s.regs with idleT := now } }) ∧
  (∀ (data aux : Level) (s : State), s.regs.pos.toNat ≤ 15 →
    ∃ t, exec (.bitShift data aux) s = .next t ∧
      t = { s with regs := { s.regs with
        stAcc := t.regs.stAcc, auxAcc := t.regs.auxAcc, pos := t.regs.pos } } ∧
      t.regs.pos.toNat = s.regs.pos.toNat + 1 ∧
      ∀ i, i < 16 →
        t.regs.stAcc.getLsbD i =
          (s.regs.stAcc.getLsbD i || (decide (i + s.regs.pos.toNat = 15) && data)) ∧
        t.regs.auxAcc.getLsbD i =
          (s.regs.auxAcc.getLsbD i || (decide (i + s.regs.pos.toNat = 15) && aux)))

/-- COMPLETE moves the snapshots, updates the beep counter, marks the frame done and drops
synchronization; BEEP_UPDATE counts frames with the beep bit and starts again at 0 without it (R123 to
R125; decisions D3 for the saturation, D19 for the accumulators, which stay; that each row is its
procedure's body run by itself is DEDUCED, log 4). -/
def Obligations.CompleteStepsTakeSnapshots : Prop :=
  (∀ s : State, ∃ t, exec .complete s = .next t ∧
    t = { s with regs := { s.regs with
      stPrev := s.regs.stAvail, keyPrev := s.regs.keyAvail, stAvail := s.regs.stAcc
      auxAvail := s.regs.auxAcc, keyAvail := s.regs.keyAcc, beepCnt := t.regs.beepCnt
      frameDone := true, sync := false, pos := 0 } } ∧
    t.regs.beepCnt.toNat = (if s.regs.stAcc &&& Config.params.statusMask .beep = 0 then 0
      else min (s.regs.beepCnt.toNat + 1) 65535)) ∧
  (∀ s : State, ∃ t, exec .beepUpdate s = .next t ∧
    t = { s with regs := { s.regs with beepCnt := t.regs.beepCnt } } ∧
    t.regs.beepCnt.toNat = (if s.regs.stAvail &&& Config.params.statusMask .beep = 0 then 0
      else min (s.regs.beepCnt.toNat + 1) 65535))

/-- FIRSTBIT, RELEASE, TXEND, TXSLOT and HOLD_COUNTDOWN write what R140 to R144 give them and nothing
else (decisions D3, D9, D17, D18; that each row is its procedure's body run by itself is DEDUCED, log 4).
TXSLOT at the cursors at which R100 runs it; that it counts a `TX_HOLD` of 0, which R33 excludes, down to
255 is the model's choice (log 13). -/
def Obligations.TransmitStepsWriteTheirRegisters : Prop :=
  (∀ s : State, ∃ t, exec .firstBit s = .next t ∧
    t = { s with regs := { s.regs with
      txActive := t.regs.txActive, txCur := t.regs.txCur, quietCnt := t.regs.quietCnt } } ∧
    (if s.regs.txCode = 0 then t.regs.txActive = s.regs.txActive ∧ t.regs.txCur = s.regs.txCur ∧
        t.regs.quietCnt.toNat = min (s.regs.quietCnt.toNat + 1) 65535
     else t.regs.txActive = true ∧ t.regs.txCur = 0 ∧ t.regs.quietCnt = 0)) ∧
  (∀ s : State, exec .release s = .next { s with regs := { s.regs with driveLow := false } }) ∧
  (∀ s : State, exec .txEnd s = .next { s with regs := { s.regs with txActive := false } }) ∧
  (∀ s : State, s.regs.txCur.toNat < 7 → ∃ t, exec .txSlot s = .next t ∧
    t = { s with regs := { s.regs with driveLow := t.regs.driveLow, txCur := t.regs.txCur
                                       txHold := t.regs.txHold, txCode := t.regs.txCode } } ∧
    t.regs.driveLow = (s.regs.txCode.getLsbD (6 - s.regs.txCur.toNat) || s.regs.driveLow) ∧
    t.regs.txCur.toNat = s.regs.txCur.toNat + 1 ∧
    (if s.regs.txCur.toNat = 6 then t.regs.txHold = s.regs.txHold - 1 ∧
        t.regs.txCode = (if s.regs.txHold = 1 then 0 else s.regs.txCode)
     else t.regs.txHold = s.regs.txHold ∧ t.regs.txCode = s.regs.txCode)) ∧
  (∀ s : State, s.regs.txHold ≠ 0 → ∃ t, exec .holdCountdown s = .next t ∧
    t = { s with regs := { s.regs with txHold := t.regs.txHold, txCode := t.regs.txCode } } ∧
    t.regs.txHold.toNat + 1 = s.regs.txHold.toNat ∧
    (t.regs.txHold = 0 → t.regs.txCode = 0) ∧ (t.regs.txHold ≠ 0 → t.regs.txCode = s.regs.txCode))

/-- The five rows of the classification table, and CHANGED over all 16 bits; INTERPRET is both (R200,
R201, R202; decision D21 for the values the document does not fix; that each row is its procedure's body
run by itself is DEDUCED, log 4; D3 for the saturation). -/
def Obligations.InterpretFollowsTheTable : Prop :=
  (∀ s : State, exec .changeUpdate s = .next { s with regs := { s.regs with
      changed := decide (∃ i : Fin 16, s.regs.stAvail.getLsbD i ≠ s.regs.stPrev.getLsbD i) } }) ∧
  (∀ s : State, ∃ t, exec .keyClassify s = .next t ∧
    t = { s with regs := { s.regs with
      pressed := t.regs.pressed, released := t.regs.released, pressCnt := t.regs.pressCnt } } ∧
    t.regs.pressed = s.regs.keyAvail ∧
    (s.regs.keyPrev = 0 → s.regs.keyAvail = 0 → t.regs.released = 0 ∧ t.regs.pressCnt = 0) ∧
    (s.regs.keyPrev = 0 → s.regs.keyAvail ≠ 0 → t.regs.released = 0 ∧ t.regs.pressCnt = 1) ∧
    (s.regs.keyPrev ≠ 0 → s.regs.keyAvail = s.regs.keyPrev → t.regs.released = 0 ∧
      t.regs.pressCnt.toNat = min (s.regs.pressCnt.toNat + 1) 65535) ∧
    (s.regs.keyPrev ≠ 0 → s.regs.keyAvail ≠ 0 → s.regs.keyAvail ≠ s.regs.keyPrev →
      t.regs.released = s.regs.keyPrev ∧ t.regs.pressCnt = 1) ∧
    (s.regs.keyPrev ≠ 0 → s.regs.keyAvail = 0 →
      t.regs.released = s.regs.keyPrev ∧ t.regs.pressCnt = 0)) ∧
  (∀ s : State, ∃ t u, exec .changeUpdate s = .next t ∧ exec .keyClassify t = .next u ∧
    exec .interpret s = .next u)

/-! ## Transmission -/

/-- The rising edge of slot 0 of a synchronized frame picks up a pending request and sets up its first bit,
or counts a quiet frame and drives nothing (R104, R140, R141, R143; decisions D3, D5, D9). That a quiet
frame leaves `TX_ACTIVE` alone, and drives nothing even when a stale `TX_ACTIVE` is 1 with the cursor at
7, rests on decision D18 (log 7), by which FIRSTBIT's `else` arm does not touch it and TXSLOT needs
`TX_CUR < 7`. -/
def Obligations.FirstBitPicksUpTheRequest : Prop :=
  ∀ (data aux data2 : Level) (now : Timestamp) (s : State),
    s.regs.Inv → s.regs.edgeMem = false →
    s.regs.gapAt now ∨ (s.regs.sync = true ∧ s.regs.pos = 0) →
    ∃ t, exec (.tickRise data aux data2 now) s = .next t ∧ t.regs.pos = 1 ∧
      t.regs.txCode = s.regs.txCode ∧ t.regs.txHold = s.regs.txHold ∧
      (if s.regs.txCode = 0 then
        t.regs.txActive = s.regs.txActive ∧ t.regs.txCur = s.regs.txCur ∧ t.regs.driveLow = false ∧
        t.regs.quietCnt.toNat = min (s.regs.quietCnt.toNat + 1) 65535
       else
        t.regs.txActive = true ∧ t.regs.txCur = 1 ∧ t.regs.quietCnt = 0 ∧
        t.regs.driveLow = s.regs.txCode.getLsbD 6)

/-- At the rising edges of slots 1 to 6 the line is released and, in transmitting mode, driven low exactly
if the next bit of the code is 1; after the seventh bit the hold is counted down and a request with none
left is cleared (R141, R143, R144; decisions D9, D17). The guard `TX_CUR < 7`, and with it that
transmitting mode with the cursor at 7 drives nothing, rests on decision D18 (R143 calls the guard the
spec's own; log 7). That a `TX_HOLD` of 0, which R33 excludes, is counted down to 255 is the model's
choice (log 13). -/
def Obligations.SlotDrivesTheNextBit : Prop :=
  ∀ (data aux data2 : Level) (now : Timestamp) (s : State),
    s.regs.edgeMem = false → s.regs.sync = true → 1 ≤ s.regs.pos.toNat → s.regs.pos.toNat ≤ 6 →
    ¬ s.regs.gapAt now →
    ∃ t, exec (.tickRise data aux data2 now) s = .next t ∧
      t.regs.txActive = s.regs.txActive ∧ t.regs.quietCnt = s.regs.quietCnt ∧
      (if s.regs.txActive = true ∧ s.regs.txCur.toNat < 7 then
        t.regs.driveLow = s.regs.txCode.getLsbD (6 - s.regs.txCur.toNat) ∧
        t.regs.txCur.toNat = s.regs.txCur.toNat + 1 ∧
        (if s.regs.txCur.toNat = 6 then
          t.regs.txHold = s.regs.txHold - 1 ∧
          t.regs.txCode = (if s.regs.txHold = 1 then 0 else s.regs.txCode)
         else t.regs.txHold = s.regs.txHold ∧ t.regs.txCode = s.regs.txCode)
       else
        t.regs.driveLow = false ∧ t.regs.txCur = s.regs.txCur ∧
        t.regs.txHold = s.regs.txHold ∧ t.regs.txCode = s.regs.txCode)

/-- The rising edges of slots 7 to 15 end transmitting mode and never open an eighth slot, even for a
request accepted after the seventh (R142, R275; decision D18). -/
def Obligations.NoEighthSlot : Prop :=
  ∀ (data aux data2 : Level) (now : Timestamp) (s : State),
    s.regs.edgeMem = false → s.regs.sync = true → 7 ≤ s.regs.pos.toNat → s.regs.pos.toNat ≤ 15 →
    ¬ s.regs.gapAt now →
    ∃ t, exec (.tickRise data aux data2 now) s = .next t ∧
      t.regs.driveLow = false ∧ t.regs.txActive = false ∧ t.regs.txCode = s.regs.txCode ∧
      t.regs.txHold = s.regs.txHold ∧ t.regs.txCur = s.regs.txCur ∧ t.regs.quietCnt = s.regs.quietCnt

/-- A code bit set up at the rising edge of slot `k` is read back at the falling edge of slot `k + 1`
into the same bit of the Keypad Accumulator, when no other device pulls the line (R70, which the spec
derives from R120, R122 and R143; decisions D9, D10, D12, D13, D20). -/
def Obligations.SentBitIsHeardBack : Prop :=
  ∀ (data aux data2 data' aux' : Level) (now now' : Timestamp) (s : State),
    s.regs.edgeMem = false → s.regs.sync = true → s.regs.pos.toNat ≤ 6 → ¬ s.regs.gapAt now →
    s.regs.txCode ≠ 0 →
    s.regs.pos = 0 ∨ (s.regs.txActive = true ∧ s.regs.txCur.toNat = s.regs.pos.toNat) →
    ∃ t u, exec (.tickRise data aux data2 now) s = .next t ∧
      exec (.tickFall data' aux' (!t.regs.driveLow) now') t = .next u ∧
      ∀ i, i < 7 → u.regs.keyAcc.getLsbD i = (s.regs.keyAcc.getLsbD i ||
        (decide (i + s.regs.pos.toNat = 6) && s.regs.txCode.getLsbD i))

/-- A pending request goes away only by the countdown after its seventh bit or by RESET, and never
changes into another (R24, R144, R146, R170; decision D28). -/
def Obligations.RequestEndsOnlyByCountdownOrReset : Prop :=
  ∀ s t : State, step s = .next t → s.regs.txCode ≠ 0 → t.regs.txCode ≠ s.regs.txCode →
    t.regs.txCode = 0 ∧
    ((s.regs.txActive = true ∧ s.regs.txCur = 6 ∧ s.regs.txHold = 1) ∨
     ∃ r rest, s.script = r :: rest ∧ r.ev = 0x40#7)

/-- Transmitting mode is entered only at the first bit of a synchronized frame with a request pending
(R20, R61, R140; decisions D5 for the need of `SYNC`, D9 for the cursor). -/
def Obligations.TransmittingModeStartsAtTheFirstBit : Prop :=
  ∀ s t : State, step s = .next t → s.regs.txActive = false → t.regs.txActive = true →
    s.regs.edgeMem = false ∧ t.regs.edgeMem = true ∧ s.regs.txCode ≠ 0 ∧
    t.regs.sync = true ∧ t.regs.pos = 1 ∧ t.regs.txCur = 1 ∧ t.regs.quietCnt = 0

/-! ## Rules of the whole machine -/

/-- Without a rising edge and without RESET no step changes the line driver, the Idle-Gap Timer, the
transmitting mode or the quiet counter (R121, R140 to R143, R265), and the Frame Position and the 16-bit
accumulators keep their value or become 0, which RESYNC does at a TICK.HIGH in the gap window (R104, R107,
R112, R122; decision D18 for the transmitting mode, which RESYNC leaves alone). The spec derives R107 and
R265 from the rules of the steps. -/
def Obligations.OnlyRisingEdgesDriveTheFrame : Prop :=
  ∀ s t : State, step s = .next t → (s.regs.edgeMem = true ∨ t.regs.edgeMem = false) →
    (∀ r rest, s.script = r :: rest → r.ev ≠ 0x40#7) →
    t.regs.driveLow = s.regs.driveLow ∧ t.regs.idleT = s.regs.idleT ∧
    (t.regs.pos = s.regs.pos ∨ t.regs.pos = 0) ∧ t.regs.txActive = s.regs.txActive ∧
    t.regs.quietCnt = s.regs.quietCnt ∧ (t.regs.stAcc = s.regs.stAcc ∨ t.regs.stAcc = 0) ∧
    (t.regs.auxAcc = s.regs.auxAcc ∨ t.regs.auxAcc = 0)

/-- Every step leaves the Frame Position, makes it 0, or moves it by one at a rising edge of a
synchronized frame, counted from 0 if the same tick resynchronized (R112, R122; decision D5). -/
def Obligations.FramePositionMovesByOne : Prop :=
  ∀ s t : State, s.regs.pos.toNat ≤ 15 → step s = .next t →
    t.regs.pos = s.regs.pos ∨ t.regs.pos = 0 ∨
    (s.regs.edgeMem = false ∧ t.regs.edgeMem = true ∧ t.regs.sync = true ∧
      ((s.regs.sync = true ∧ t.regs.pos.toNat = s.regs.pos.toNat + 1) ∨ t.regs.pos = 1))

/-- The host's commands other than RESET and WAIT_FRAME write no register but the three of the request
(R34, R57, R161; which event words these commands have is R79's tabulation, decision D14). -/
def Obligations.HostCommandsWriteOnlyTheRequest : Prop :=
  ∀ (s t : State) (r : PortRecord) (rest : List PortRecord), s.script = r :: rest →
    0x20 ≤ r.ev.toNat → r.ev.toNat ≤ 0x32 → step s = .next t →
    t.script = rest ∧ t.env = s.env ∧ t.polls = s.polls ∧
    t.regs = { s.regs with txCode := t.regs.txCode, txHold := t.regs.txHold, txCur := t.regs.txCur } ∧
    (r.ev ≠ 0x20#7 → t.regs = s.regs)

/-- The auxiliary line reaches nothing but the auxiliary accumulator and snapshot (R14, R16, R72). -/
def Obligations.AuxiliaryLineStaysInItsStream : Prop :=
  ∀ (clk data a₁ a₂ data2 : Level) (now : Timestamp) (s₁ s₂ : State),
    s₂ = { s₁ with regs := { s₁.regs with
      auxAcc := s₂.regs.auxAcc, auxAvail := s₂.regs.auxAvail } } →
    ∃ t₁ t₂, exec (.tick clk data a₁ data2 now) s₁ = .next t₁ ∧
      exec (.tick clk data a₂ data2 now) s₂ = .next t₂ ∧
      t₂ = { t₁ with regs := { t₁.regs with
        auxAcc := t₂.regs.auxAcc, auxAvail := t₂.regs.auxAvail } }

/-- Which sample a TICK uses: the entry samples of data and auxiliary only at a rising edge, the second
data sample only at a falling edge, the timestamp only with the clock high (R56, R101, R108, R109;
decision D10). -/
def Obligations.EachEdgeUsesItsOwnSamples : Prop :=
  ∀ (clk d₁ d₂ a₁ a₂ e₁ e₂ : Level) (n₁ n₂ : Timestamp) (s : State),
    ((s.regs.edgeMem = true ∨ clk = false) →
      exec (.tick clk d₁ a₁ e₁ n₁) s = exec (.tick clk d₂ a₂ e₁ n₁) s) ∧
    ((s.regs.edgeMem = false ∨ clk = true) →
      exec (.tick clk d₁ a₁ e₁ n₁) s = exec (.tick clk d₁ a₁ e₂ n₁) s) ∧
    (clk = false → exec (.tick clk d₁ a₁ e₁ n₁) s = exec (.tick clk d₁ a₁ e₁ n₂) s)

/-- The frame is received bit by bit: RESYNC leaves no slot received, the rising edge of slot `k` adds the
bits of slot `k` of both words, a tick that is no rising edge and no gap adds none, and the sixteenth
makes both words available (R70 to R72, R122, R123; decision D20). -/
def Obligations.FrameIsReceivedSlotBySlot : Prop :=
  (∀ (st ax : Word) (data aux data2 : Level) (now : Timestamp) (s : State),
    s.regs.edgeMem = true → s.regs.gapAt now →
    ∃ t, exec (.tickHigh data aux data2 now) s = .next t ∧ t.regs.HoldsSlots st ax 0) ∧
  (∀ (st ax : Word) (k : Nat) (data2 : Level) (now : Timestamp) (s : State),
    s.regs.HoldsSlots st ax k → k ≤ 15 → s.regs.edgeMem = false → ¬ s.regs.gapAt now →
    ∃ t, exec (.tickRise (st.getLsbD (15 - k)) (ax.getLsbD (15 - k)) data2 now) s = .next t ∧
      (if k = 15 then t.regs.stAvail = st ∧ t.regs.auxAvail = ax ∧ t.regs.frameDone = true
       else t.regs.HoldsSlots st ax (k + 1))) ∧
  (∀ (st ax : Word) (k : Nat) (clk data aux data2 : Level) (now : Timestamp) (s : State),
    s.regs.HoldsSlots st ax k → (s.regs.edgeMem = true ∨ clk = false) →
    (clk = false ∨ ¬ s.regs.gapAt now) →
    ∃ t, exec (.tick clk data aux data2 now) s = .next t ∧ t.regs.HoldsSlots st ax k)

/-! ## Host operations -/

/-- RESET makes every register 0, whatever it was, and leaves the host's later events issued (log 1); the
state after reset has the same registers (R30, R160; decision D7). -/
def Obligations.ResetClearsEveryRegister : Prop :=
  ∀ s : State, ∃ t, exec .reset s = .next t ∧ t = { s with result := .noResult, regs := t.regs } ∧
    State.reset.regs = t.regs ∧
    t.regs.pos = 0 ∧ t.regs.sync = false ∧ t.regs.stAcc = 0 ∧ t.regs.auxAcc = 0 ∧ t.regs.keyAcc = 0 ∧
    t.regs.stAvail = 0 ∧ t.regs.auxAvail = 0 ∧ t.regs.keyAvail = 0 ∧ t.regs.stPrev = 0 ∧
    t.regs.keyPrev = 0 ∧ t.regs.frameDone = false ∧ t.regs.edgeMem = false ∧ t.regs.idleT = 0 ∧
    t.regs.txCode = 0 ∧ t.regs.txHold = 0 ∧ t.regs.txCur = 0 ∧ t.regs.txActive = false ∧
    t.regs.quietCnt = 0 ∧ t.regs.driveLow = false ∧ t.regs.beepCnt = 0 ∧ t.regs.pressed = 0 ∧
    t.regs.released = 0 ∧ t.regs.pressCnt = 0 ∧ t.regs.changed = false

/-- The first TICK after reset: with the clock low nothing; with it high a rising edge that only stamps,
unless `now` itself lies in the window, when it also synchronizes and takes a first bit (R260, R268;
decisions D5, D7, and R268 is derived by the spec). -/
def Obligations.FirstTickAfterReset : Prop :=
  ∀ (data aux data2 : Level) (now : Timestamp),
    exec (.tickLow data aux data2 now) State.reset = .next State.reset ∧
    (if 25000 ≤ now.toNat ∧ now.toNat ≤ 28000 then
      exec (.tickRise data aux data2 now) State.reset = .next { State.reset with regs :=
        { Regs.reset with pos := 1, sync := true, edgeMem := true, idleT := now, quietCnt := 1
                          stAcc := if data then 0x8000 else 0, auxAcc := if aux then 0x8000 else 0 } }
     else exec (.tickRise data aux data2 now) State.reset =
      .next { State.reset with regs := { Regs.reset with edgeMem := true, idleT := now } })

/-- SEND_KEY accepts exactly when the symbol is a key, no request is pending, the quiet time is served and
`N` is not 0; it then writes the three registers of the request, and else none (R161; decision D16 for
`N = 0`; D22 and D23, by which exactly a key has a code other than 0). -/
def Obligations.SendKeyAcceptsExactly : Prop :=
  ∀ (sym : Symbol) (n : Nat) (s : State), n < 256 →
    ((∃ k, sym = .key k) ∧ s.regs.txCode = 0 ∧
        Config.params.minQuiet.toNat ≤ s.regs.quietCnt.toNat ∧ n ≠ 0 →
      exec (.sendKey sym n) s = .next { s with result := .accept, regs := { s.regs with
        txCode := encodeSymbol Config.params sym, txHold := BitVec.ofNat 8 n, txCur := 0 } }) ∧
    (¬ ((∃ k, sym = .key k) ∧ s.regs.txCode = 0 ∧
        Config.params.minQuiet.toNat ≤ s.regs.quietCnt.toNat ∧ n ≠ 0) →
      exec (.sendKey sym n) s = .next { s with result := .reject })

/-- A symbol that is no key is rejected with no state change (R233). -/
def Obligations.UnknownSymbolIsRejected : Prop :=
  ∀ (sym : Symbol) (n : Nat) (s : State), n < 256 → encodeSymbol Config.params sym = 0 →
    exec (.sendKey sym n) s = .next { s with result := .reject }

/-- A second request is rejected while one is pending, and so is any while the quiet time is not served;
the pending request stays (R234). -/
def Obligations.BusyTransmitterRejects : Prop :=
  ∀ (sym : Symbol) (n : Nat) (s : State), n < 256 →
    s.regs.txCode ≠ 0 ∨ s.regs.quietCnt.toNat < Config.params.minQuiet.toNat →
    exec (.sendKey sym n) s = .next { s with result := .reject }

/-- Of two identical requests the second is rejected (R57, which the spec derives; decisions D16 and
D23, by which an accepted request is pending). -/
def Obligations.SecondIdenticalRequestIsRejected : Prop :=
  ∀ (sym : Symbol) (n : Nat) (s : State), n < 256 →
    ∃ t, exec (.sendKey sym n) s = .next t ∧
      exec (.sendKey sym n) t = .next { t with result := .reject }

/-- Q_READY is 1 exactly when a SEND_KEY of any key with any `N` from 1 would be accepted (R162, which the
spec derives from R161; decisions D16, D23). -/
def Obligations.ReadyPredictsAcceptance : Prop :=
  ∀ s : State, ∃ b, exec .qReady s = .next { s with result := .bit b } ∧
    ∀ (k : KeySymbol) (n : Nat), 1 ≤ n → n < 256 →
      ∃ t, exec (.sendKey (.key k) n) s = .next t ∧ t.result = (if b then .accept else .reject)

/-- Operands outside the interface are refused by name (R80 (e), R161, R216; 93: U17; decision D14; the
names of the refusals are the model's choice, log 12). -/
def Obligations.OutOfRangeOperandsAreRefused : Prop :=
  ∀ (k : Nat) (sym : Symbol) (s : State),
    (k = 0 ∨ 6 < k → exec (.qZoneLight k) s = .refused (.indexOutOfRange k) ∧
      exec (.qZoneTripped k) s = .refused (.indexOutOfRange k)) ∧
    (k = 0 ∨ 5 < k → exec (.qStatusLight k) s = .refused (.indexOutOfRange k)) ∧
    (k = 0 ∨ 3 < k → exec (.qBtn k) s = .refused (.indexOutOfRange k)) ∧
    (256 ≤ k → exec (.sendKey sym k) s = .refused (.holdOutOfRange k))

/-- Q_FRAME_DONE, Q_CHANGED, Q_PRESS_CNT and Q_BEEP_CNT answer their register (R163, R164, R167, R168). -/
def Obligations.EngineQueriesAnswerTheirRegister : Prop :=
  ∀ s : State,
    exec .qFrameDone s = .next { s with result := .bit s.regs.frameDone } ∧
    exec .qChanged s = .next { s with result := .bit s.regs.changed } ∧
    exec .qPressCnt s = .next { s with result := .count s.regs.pressCnt } ∧
    exec .qBeepCnt s = .next { s with result := .count s.regs.beepCnt }

/-- Q_PRESSED and Q_RELEASED answer the key whose code the register holds, and `NONE` when it is 0 or no
code of the table (R165, R166, R204). -/
def Obligations.KeyQueriesAnswerTheSymbol : Prop :=
  ∀ s : State,
    (∃ a, exec .qPressed s = .next { s with result := .symbol a } ∧ (s.regs.pressed = 0 → a = none) ∧
      ∀ k, a = some k ↔ Config.params.keyCode k = s.regs.pressed.zeroExtend 8) ∧
    (∃ a, exec .qReleased s = .next { s with result := .symbol a } ∧ (s.regs.released = 0 → a = none) ∧
      ∀ k, a = some k ↔ Config.params.keyCode k = s.regs.released.zeroExtend 8)

/-- Q_STATUS_LIGHT, Q_ARMED, Q_ARMED_BYPASS, Q_TROUBLE, Q_FIRE_LATCHED and Q_ZONE_TRIPPED answer whether
their mask meets the snapshot, and change nothing (R206, R210 to R214). -/
def Obligations.MaskQueriesAnswerTheMaskedField : Prop :=
  ∀ s : State,
    let status (b : StatusBit) : HostResult :=
      .bit (decide (s.regs.stAvail &&& Config.params.statusMask b ≠ 0))
    let aux (b : AuxBit) : HostResult :=
      .bit (decide (s.regs.auxAvail &&& Config.params.auxMask b ≠ 0))
    (∀ j : Fin 5, exec (.qStatusLight (j.val + 1)) s = .next { s with result := status (.light j) }) ∧
    exec .qArmed s = .next { s with result := aux .armed } ∧
    exec .qArmedBypass s = .next { s with result := aux .armedBypass } ∧
    exec .qTrouble s = .next { s with result := aux .trouble } ∧
    exec .qFireLatched s = .next { s with result := aux .fireLatched } ∧
    (∀ i : Fin 6, exec (.qZoneTripped (i.val + 1)) s = .next { s with result := aux (.tripped i) })

/-- The zone lights, the status lights and the beep bit are twelve different bits of the status snapshot
(R205, R206, R207; decision D27: which ones is open). -/
def Obligations.StatusQueriesAnswerOneBit : Prop :=
  ∃ place : StatusBit → Fin 16, Function.Injective place ∧ ∀ s : State,
    (∀ i : Fin 6, exec (.qZoneLight (i.val + 1)) s =
      .next { s with result := .bit (s.regs.stAvail.getLsbD (place (.zone i)).val) }) ∧
    (∀ j : Fin 5, exec (.qStatusLight (j.val + 1)) s =
      .next { s with result := .bit (s.regs.stAvail.getLsbD (place (.light j)).val) }) ∧
    exec .qBeep s = .next { s with result := .bit (s.regs.stAvail.getLsbD (place .beep).val) }

/-- The fourteen auxiliary bits are different bits of the auxiliary snapshot, and the aggregate is 1 when
the armed bit and at least one tripped bit are (R208 to R215; decisions D24 for the aggregate and D27). -/
def Obligations.AuxiliaryQueriesAnswerOneBit : Prop :=
  ∃ place : AuxBit → Fin 16, Function.Injective place ∧ ∀ s : State,
    exec .qPgm s = .next { s with result := .bit (s.regs.auxAvail.getLsbD (place .pgm).val) } ∧
    (∀ b : Fin 3, exec (.qBtn (b.val + 1)) s =
      .next { s with result := .bit (s.regs.auxAvail.getLsbD (place (.button b)).val) }) ∧
    exec .qArmed s = .next { s with result := .bit (s.regs.auxAvail.getLsbD (place .armed).val) } ∧
    exec .qArmedBypass s =
      .next { s with result := .bit (s.regs.auxAvail.getLsbD (place .armedBypass).val) } ∧
    exec .qTrouble s = .next { s with result := .bit (s.regs.auxAvail.getLsbD (place .trouble).val) } ∧
    exec .qFireLatched s =
      .next { s with result := .bit (s.regs.auxAvail.getLsbD (place .fireLatched).val) } ∧
    (∀ i : Fin 6, exec (.qZoneTripped (i.val + 1)) s =
      .next { s with result := .bit (s.regs.auxAvail.getLsbD (place (.tripped i)).val) }) ∧
    ∃ b, exec .qAnyTrippedArmed s = .next { s with result := .bit b } ∧
      (b = true ↔ s.regs.auxAvail.getLsbD (place .armed).val = true ∧
        ∃ i : Fin 6, s.regs.auxAvail.getLsbD (place (.tripped i)).val = true)

/-- A query changes no register and answers the same when it is repeated (R57, which the spec derives, and
R216). -/
def Obligations.QueriesRepeat : Prop :=
  ∀ i ∈ ([.qReady, .qFrameDone, .qChanged, .qPressed, .qReleased, .qPressCnt, .qBeepCnt, .qBeep, .qPgm,
      .qArmed, .qArmedBypass, .qTrouble, .qFireLatched, .qAnyTrippedArmed, .qZoneLight 1, .qZoneLight 2,
      .qZoneLight 3, .qZoneLight 4, .qZoneLight 5, .qZoneLight 6, .qStatusLight 1, .qStatusLight 2,
      .qStatusLight 3, .qStatusLight 4, .qStatusLight 5, .qBtn 1, .qBtn 2, .qBtn 3, .qZoneTripped 1,
      .qZoneTripped 2, .qZoneTripped 3, .qZoneTripped 4, .qZoneTripped 5, .qZoneTripped 6] : List Instr),
    ∀ s : State, ∃ t, exec i s = .next t ∧ t = { s with result := t.result } ∧ exec i t = .next t

/-- WAIT_FRAME runs one TICK a step with the environment's next sample (some sample, when none is put
down), and is done exactly when that TICK completed a frame (R169; decision D29; the environment's
samples and one TICK a step are the model's, log 9). -/
def Obligations.WaitFrameRunsOneTickAStep : Prop :=
  ∀ s : State, ∃ x t u, exec .waitFrame s = .next t ∧
    exec (.tick x.clk x.data x.aux x.data2 x.now) s = .next u ∧
    t.regs = u.regs ∧ t.result = .noResult ∧
    (∀ y rest, s.env = y :: rest → x = y ∧ t.env = rest ∧ t.polls = s.polls) ∧
    (s.env = [] → t.env = [] ∧ t.polls = s.polls + 1) ∧
    t.script = (if t.regs.frameDone then s.script else encode .waitFrame :: s.script)

/-- However long a WAIT_FRAME runs, it stops nothing, and it is over only once a TICK has completed a
frame (R169, R271; decision D29; log 9). -/
def Obligations.WaitFrameReturnsOnlyWithAFrame : Prop :=
  ∀ (k : Nat) (s : State), s.script = [encode .waitFrame] →
    ∃ t : State, Host.Core.run Sys2Proof.core k s = .next t ∧
      (t.script = [encode .waitFrame] ∨ (t.script = [] ∧ t.regs.frameDone = true))

/-! ## The Key Code Table and the masks -/

/-- The parameters the machine runs with meet every constraint of R203, R205 and R208 (decisions D23 and
D27; the form of the parameters is the model's, log 6). -/
def Obligations.ParametersMeetTheirConstraints : Prop := Config.params.Valid

/-- The table round-trips for every key, what is no key encodes to the sentinel, and a code that is no
key's decodes to NONE (R204; decision D22), under every table that meets R203. -/
def Obligations.KeyTableRoundTrips : Prop :=
  ∀ p : Params, p.Valid →
    (∀ k, decodeCode p (encodeSymbol p (.key k)) = some k) ∧
    (∀ c, encodeSymbol p (.other c) = 0) ∧
    (∀ c : Code, (∀ k, p.keyCode k ≠ c) → decodeCode p c = none) ∧ decodeCode p 0 = none

/-! ## Invariants -/

/-- The state after reset meets the four invariants below (R30, R33; decision D7). -/
def Obligations.ResetMeetsTheInvariants : Prop :=
  State.reset.regs.Inv ∧ State.reset.regs.Unwritten ∧ State.reset.regs.Derived Config.params ∧
    State.reset.regs.CodeInTable Config.params

/-- Every step keeps the invariants of R33, items 1 to 5, 7, 9, 10 and 11 (consequences the spec
derives, from rules that rest among others on decisions D5, D16, D17 and D18; log 7). -/
def Obligations.StepKeepsTheControlInvariants : Prop :=
  ∀ s t : State, s.regs.Inv → step s = .next t → t.regs.Inv

/-- Every step keeps R33 item 8: no bit still to come in the frame has been written (a consequence the
spec derives, from rules that rest among others on decisions D5 and D13; log 7). -/
def Obligations.StepKeepsComingBitsUnwritten : Prop :=
  ∀ s t : State, s.regs.Inv → s.regs.Unwritten → step s = .next t → t.regs.Unwritten

/-- Every step keeps the derived registers true to the snapshots: CHANGED, the pressed and released codes,
the press count, the beep count (R124, R164, R201, R202, R207; decisions D3, D21). -/
def Obligations.StepKeepsDerivedRegistersTrue : Prop :=
  ∀ s t : State, s.regs.Derived Config.params → step s = .next t → t.regs.Derived Config.params

/-- Every step keeps the pending code an entry of the Key Code Table or 0 (R24, R161, R203). -/
def Obligations.StepKeepsThePendingCodeAKey : Prop :=
  ∀ s t : State, s.regs.CodeInTable Config.params → step s = .next t →
    t.regs.CodeInTable Config.params
end

