-- ==== Sys2Proof/Laws/State.lean ====
section
/-! SUPPORT. Laws/State.lean: one lemma per field per update, each true by rfl, so that no proof unfolds
a record update. -/

namespace Sys2Proof.Machine

/-! ## The fields of `State` -/

@[simp] theorem State.mapRegs_regs (s : State) (f : Regs → Regs) : (s.mapRegs f).regs = f s.regs := rfl
@[simp] theorem State.mapRegs_result (s : State) (f : Regs → Regs) : (s.mapRegs f).result = s.result := rfl
@[simp] theorem State.mapRegs_script (s : State) (f : Regs → Regs) : (s.mapRegs f).script = s.script := rfl
@[simp] theorem State.mapRegs_env (s : State) (f : Regs → Regs) : (s.mapRegs f).env = s.env := rfl
@[simp] theorem State.mapRegs_polls (s : State) (f : Regs → Regs) : (s.mapRegs f).polls = s.polls := rfl
@[simp] theorem State.answer_regs (s : State) (x : HostResult) : (s.answer x).regs = s.regs := rfl
@[simp] theorem State.answer_result (s : State) (x : HostResult) : (s.answer x).result = x := rfl
@[simp] theorem State.answer_script (s : State) (x : HostResult) : (s.answer x).script = s.script := rfl
@[simp] theorem State.answer_env (s : State) (x : HostResult) : (s.answer x).env = s.env := rfl
@[simp] theorem State.answer_polls (s : State) (x : HostResult) : (s.answer x).polls = s.polls := rfl
@[simp] theorem State.tick_regs (s : State) (x : LineSample) : (s.tick x).regs = Regs.tick Config.params x s.regs := rfl
@[simp] theorem State.tick_result (s : State) (x : LineSample) : (s.tick x).result = .noResult := rfl
@[simp] theorem State.tick_script (s : State) (x : LineSample) : (s.tick x).script = s.script := rfl
@[simp] theorem State.tick_env (s : State) (x : LineSample) : (s.tick x).env = s.env := rfl
@[simp] theorem State.tick_polls (s : State) (x : LineSample) : (s.tick x).polls = s.polls := rfl

/-! ## `Regs.clearDone` -/

@[simp] theorem Regs.clearDone_pos (r : Regs) : (r.clearDone).pos = r.pos := rfl
@[simp] theorem Regs.clearDone_sync (r : Regs) : (r.clearDone).sync = r.sync := rfl
@[simp] theorem Regs.clearDone_stAcc (r : Regs) : (r.clearDone).stAcc = r.stAcc := rfl
@[simp] theorem Regs.clearDone_auxAcc (r : Regs) : (r.clearDone).auxAcc = r.auxAcc := rfl
@[simp] theorem Regs.clearDone_keyAcc (r : Regs) : (r.clearDone).keyAcc = r.keyAcc := rfl
@[simp] theorem Regs.clearDone_stAvail (r : Regs) : (r.clearDone).stAvail = r.stAvail := rfl
@[simp] theorem Regs.clearDone_auxAvail (r : Regs) : (r.clearDone).auxAvail = r.auxAvail := rfl
@[simp] theorem Regs.clearDone_keyAvail (r : Regs) : (r.clearDone).keyAvail = r.keyAvail := rfl
@[simp] theorem Regs.clearDone_stPrev (r : Regs) : (r.clearDone).stPrev = r.stPrev := rfl
@[simp] theorem Regs.clearDone_keyPrev (r : Regs) : (r.clearDone).keyPrev = r.keyPrev := rfl
@[simp] theorem Regs.clearDone_frameDone (r : Regs) : (r.clearDone).frameDone = false := rfl
@[simp] theorem Regs.clearDone_edgeMem (r : Regs) : (r.clearDone).edgeMem = r.edgeMem := rfl
@[simp] theorem Regs.clearDone_idleT (r : Regs) : (r.clearDone).idleT = r.idleT := rfl
@[simp] theorem Regs.clearDone_txCode (r : Regs) : (r.clearDone).txCode = r.txCode := rfl
@[simp] theorem Regs.clearDone_txHold (r : Regs) : (r.clearDone).txHold = r.txHold := rfl
@[simp] theorem Regs.clearDone_txCur (r : Regs) : (r.clearDone).txCur = r.txCur := rfl
@[simp] theorem Regs.clearDone_txActive (r : Regs) : (r.clearDone).txActive = r.txActive := rfl
@[simp] theorem Regs.clearDone_quietCnt (r : Regs) : (r.clearDone).quietCnt = r.quietCnt := rfl
@[simp] theorem Regs.clearDone_driveLow (r : Regs) : (r.clearDone).driveLow = r.driveLow := rfl
@[simp] theorem Regs.clearDone_beepCnt (r : Regs) : (r.clearDone).beepCnt = r.beepCnt := rfl
@[simp] theorem Regs.clearDone_pressed (r : Regs) : (r.clearDone).pressed = r.pressed := rfl
@[simp] theorem Regs.clearDone_released (r : Regs) : (r.clearDone).released = r.released := rfl
@[simp] theorem Regs.clearDone_pressCnt (r : Regs) : (r.clearDone).pressCnt = r.pressCnt := rfl
@[simp] theorem Regs.clearDone_changed (r : Regs) : (r.clearDone).changed = r.changed := rfl

/-! ## `Regs.resync` -/

@[simp] theorem Regs.resync_pos (r : Regs) : (r.resync).pos = 0 := rfl
@[simp] theorem Regs.resync_sync (r : Regs) : (r.resync).sync = true := rfl
@[simp] theorem Regs.resync_stAcc (r : Regs) : (r.resync).stAcc = 0 := rfl
@[simp] theorem Regs.resync_auxAcc (r : Regs) : (r.resync).auxAcc = 0 := rfl
@[simp] theorem Regs.resync_keyAcc (r : Regs) : (r.resync).keyAcc = 0 := rfl
@[simp] theorem Regs.resync_stAvail (r : Regs) : (r.resync).stAvail = r.stAvail := rfl
@[simp] theorem Regs.resync_auxAvail (r : Regs) : (r.resync).auxAvail = r.auxAvail := rfl
@[simp] theorem Regs.resync_keyAvail (r : Regs) : (r.resync).keyAvail = r.keyAvail := rfl
@[simp] theorem Regs.resync_stPrev (r : Regs) : (r.resync).stPrev = r.stPrev := rfl
@[simp] theorem Regs.resync_keyPrev (r : Regs) : (r.resync).keyPrev = r.keyPrev := rfl
@[simp] theorem Regs.resync_frameDone (r : Regs) : (r.resync).frameDone = r.frameDone := rfl
@[simp] theorem Regs.resync_edgeMem (r : Regs) : (r.resync).edgeMem = r.edgeMem := rfl
@[simp] theorem Regs.resync_idleT (r : Regs) : (r.resync).idleT = r.idleT := rfl
@[simp] theorem Regs.resync_txCode (r : Regs) : (r.resync).txCode = r.txCode := rfl
@[simp] theorem Regs.resync_txHold (r : Regs) : (r.resync).txHold = r.txHold := rfl
@[simp] theorem Regs.resync_txCur (r : Regs) : (r.resync).txCur = r.txCur := rfl
@[simp] theorem Regs.resync_txActive (r : Regs) : (r.resync).txActive = r.txActive := rfl
@[simp] theorem Regs.resync_quietCnt (r : Regs) : (r.resync).quietCnt = r.quietCnt := rfl
@[simp] theorem Regs.resync_driveLow (r : Regs) : (r.resync).driveLow = r.driveLow := rfl
@[simp] theorem Regs.resync_beepCnt (r : Regs) : (r.resync).beepCnt = r.beepCnt := rfl
@[simp] theorem Regs.resync_pressed (r : Regs) : (r.resync).pressed = r.pressed := rfl
@[simp] theorem Regs.resync_released (r : Regs) : (r.resync).released = r.released := rfl
@[simp] theorem Regs.resync_pressCnt (r : Regs) : (r.resync).pressCnt = r.pressCnt := rfl
@[simp] theorem Regs.resync_changed (r : Regs) : (r.resync).changed = r.changed := rfl

/-! ## `Regs.saveClk` -/

@[simp] theorem Regs.saveClk_pos (r : Regs) (c : Level) : (r.saveClk c).pos = r.pos := rfl
@[simp] theorem Regs.saveClk_sync (r : Regs) (c : Level) : (r.saveClk c).sync = r.sync := rfl
@[simp] theorem Regs.saveClk_stAcc (r : Regs) (c : Level) : (r.saveClk c).stAcc = r.stAcc := rfl
@[simp] theorem Regs.saveClk_auxAcc (r : Regs) (c : Level) : (r.saveClk c).auxAcc = r.auxAcc := rfl
@[simp] theorem Regs.saveClk_keyAcc (r : Regs) (c : Level) : (r.saveClk c).keyAcc = r.keyAcc := rfl
@[simp] theorem Regs.saveClk_stAvail (r : Regs) (c : Level) : (r.saveClk c).stAvail = r.stAvail := rfl
@[simp] theorem Regs.saveClk_auxAvail (r : Regs) (c : Level) : (r.saveClk c).auxAvail = r.auxAvail := rfl
@[simp] theorem Regs.saveClk_keyAvail (r : Regs) (c : Level) : (r.saveClk c).keyAvail = r.keyAvail := rfl
@[simp] theorem Regs.saveClk_stPrev (r : Regs) (c : Level) : (r.saveClk c).stPrev = r.stPrev := rfl
@[simp] theorem Regs.saveClk_keyPrev (r : Regs) (c : Level) : (r.saveClk c).keyPrev = r.keyPrev := rfl
@[simp] theorem Regs.saveClk_frameDone (r : Regs) (c : Level) : (r.saveClk c).frameDone = r.frameDone := rfl
@[simp] theorem Regs.saveClk_edgeMem (r : Regs) (c : Level) : (r.saveClk c).edgeMem = c := rfl
@[simp] theorem Regs.saveClk_idleT (r : Regs) (c : Level) : (r.saveClk c).idleT = r.idleT := rfl
@[simp] theorem Regs.saveClk_txCode (r : Regs) (c : Level) : (r.saveClk c).txCode = r.txCode := rfl
@[simp] theorem Regs.saveClk_txHold (r : Regs) (c : Level) : (r.saveClk c).txHold = r.txHold := rfl
@[simp] theorem Regs.saveClk_txCur (r : Regs) (c : Level) : (r.saveClk c).txCur = r.txCur := rfl
@[simp] theorem Regs.saveClk_txActive (r : Regs) (c : Level) : (r.saveClk c).txActive = r.txActive := rfl
@[simp] theorem Regs.saveClk_quietCnt (r : Regs) (c : Level) : (r.saveClk c).quietCnt = r.quietCnt := rfl
@[simp] theorem Regs.saveClk_driveLow (r : Regs) (c : Level) : (r.saveClk c).driveLow = r.driveLow := rfl
@[simp] theorem Regs.saveClk_beepCnt (r : Regs) (c : Level) : (r.saveClk c).beepCnt = r.beepCnt := rfl
@[simp] theorem Regs.saveClk_pressed (r : Regs) (c : Level) : (r.saveClk c).pressed = r.pressed := rfl
@[simp] theorem Regs.saveClk_released (r : Regs) (c : Level) : (r.saveClk c).released = r.released := rfl
@[simp] theorem Regs.saveClk_pressCnt (r : Regs) (c : Level) : (r.saveClk c).pressCnt = r.pressCnt := rfl
@[simp] theorem Regs.saveClk_changed (r : Regs) (c : Level) : (r.saveClk c).changed = r.changed := rfl

/-! ## `Regs.keySample` -/

@[simp] theorem Regs.keySample_pos (r : Regs) (d : Level) : (r.keySample d).pos = r.pos := rfl
@[simp] theorem Regs.keySample_sync (r : Regs) (d : Level) : (r.keySample d).sync = r.sync := rfl
@[simp] theorem Regs.keySample_stAcc (r : Regs) (d : Level) : (r.keySample d).stAcc = r.stAcc := rfl
@[simp] theorem Regs.keySample_auxAcc (r : Regs) (d : Level) : (r.keySample d).auxAcc = r.auxAcc := rfl
@[simp] theorem Regs.keySample_keyAcc (r : Regs) (d : Level) : (r.keySample d).keyAcc = r.keyAcc ||| placeBit 7 (!d) (keyPlace r.pos) := rfl
@[simp] theorem Regs.keySample_stAvail (r : Regs) (d : Level) : (r.keySample d).stAvail = r.stAvail := rfl
@[simp] theorem Regs.keySample_auxAvail (r : Regs) (d : Level) : (r.keySample d).auxAvail = r.auxAvail := rfl
@[simp] theorem Regs.keySample_keyAvail (r : Regs) (d : Level) : (r.keySample d).keyAvail = r.keyAvail := rfl
@[simp] theorem Regs.keySample_stPrev (r : Regs) (d : Level) : (r.keySample d).stPrev = r.stPrev := rfl
@[simp] theorem Regs.keySample_keyPrev (r : Regs) (d : Level) : (r.keySample d).keyPrev = r.keyPrev := rfl
@[simp] theorem Regs.keySample_frameDone (r : Regs) (d : Level) : (r.keySample d).frameDone = r.frameDone := rfl
@[simp] theorem Regs.keySample_edgeMem (r : Regs) (d : Level) : (r.keySample d).edgeMem = r.edgeMem := rfl
@[simp] theorem Regs.keySample_idleT (r : Regs) (d : Level) : (r.keySample d).idleT = r.idleT := rfl
@[simp] theorem Regs.keySample_txCode (r : Regs) (d : Level) : (r.keySample d).txCode = r.txCode := rfl
@[simp] theorem Regs.keySample_txHold (r : Regs) (d : Level) : (r.keySample d).txHold = r.txHold := rfl
@[simp] theorem Regs.keySample_txCur (r : Regs) (d : Level) : (r.keySample d).txCur = r.txCur := rfl
@[simp] theorem Regs.keySample_txActive (r : Regs) (d : Level) : (r.keySample d).txActive = r.txActive := rfl
@[simp] theorem Regs.keySample_quietCnt (r : Regs) (d : Level) : (r.keySample d).quietCnt = r.quietCnt := rfl
@[simp] theorem Regs.keySample_driveLow (r : Regs) (d : Level) : (r.keySample d).driveLow = r.driveLow := rfl
@[simp] theorem Regs.keySample_beepCnt (r : Regs) (d : Level) : (r.keySample d).beepCnt = r.beepCnt := rfl
@[simp] theorem Regs.keySample_pressed (r : Regs) (d : Level) : (r.keySample d).pressed = r.pressed := rfl
@[simp] theorem Regs.keySample_released (r : Regs) (d : Level) : (r.keySample d).released = r.released := rfl
@[simp] theorem Regs.keySample_pressCnt (r : Regs) (d : Level) : (r.keySample d).pressCnt = r.pressCnt := rfl
@[simp] theorem Regs.keySample_changed (r : Regs) (d : Level) : (r.keySample d).changed = r.changed := rfl

/-! ## `Regs.stamp` -/

@[simp] theorem Regs.stamp_pos (r : Regs) (t : Timestamp) : (r.stamp t).pos = r.pos := rfl
@[simp] theorem Regs.stamp_sync (r : Regs) (t : Timestamp) : (r.stamp t).sync = r.sync := rfl
@[simp] theorem Regs.stamp_stAcc (r : Regs) (t : Timestamp) : (r.stamp t).stAcc = r.stAcc := rfl
@[simp] theorem Regs.stamp_auxAcc (r : Regs) (t : Timestamp) : (r.stamp t).auxAcc = r.auxAcc := rfl
@[simp] theorem Regs.stamp_keyAcc (r : Regs) (t : Timestamp) : (r.stamp t).keyAcc = r.keyAcc := rfl
@[simp] theorem Regs.stamp_stAvail (r : Regs) (t : Timestamp) : (r.stamp t).stAvail = r.stAvail := rfl
@[simp] theorem Regs.stamp_auxAvail (r : Regs) (t : Timestamp) : (r.stamp t).auxAvail = r.auxAvail := rfl
@[simp] theorem Regs.stamp_keyAvail (r : Regs) (t : Timestamp) : (r.stamp t).keyAvail = r.keyAvail := rfl
@[simp] theorem Regs.stamp_stPrev (r : Regs) (t : Timestamp) : (r.stamp t).stPrev = r.stPrev := rfl
@[simp] theorem Regs.stamp_keyPrev (r : Regs) (t : Timestamp) : (r.stamp t).keyPrev = r.keyPrev := rfl
@[simp] theorem Regs.stamp_frameDone (r : Regs) (t : Timestamp) : (r.stamp t).frameDone = r.frameDone := rfl
@[simp] theorem Regs.stamp_edgeMem (r : Regs) (t : Timestamp) : (r.stamp t).edgeMem = r.edgeMem := rfl
@[simp] theorem Regs.stamp_idleT (r : Regs) (t : Timestamp) : (r.stamp t).idleT = t := rfl
@[simp] theorem Regs.stamp_txCode (r : Regs) (t : Timestamp) : (r.stamp t).txCode = r.txCode := rfl
@[simp] theorem Regs.stamp_txHold (r : Regs) (t : Timestamp) : (r.stamp t).txHold = r.txHold := rfl
@[simp] theorem Regs.stamp_txCur (r : Regs) (t : Timestamp) : (r.stamp t).txCur = r.txCur := rfl
@[simp] theorem Regs.stamp_txActive (r : Regs) (t : Timestamp) : (r.stamp t).txActive = r.txActive := rfl
@[simp] theorem Regs.stamp_quietCnt (r : Regs) (t : Timestamp) : (r.stamp t).quietCnt = r.quietCnt := rfl
@[simp] theorem Regs.stamp_driveLow (r : Regs) (t : Timestamp) : (r.stamp t).driveLow = r.driveLow := rfl
@[simp] theorem Regs.stamp_beepCnt (r : Regs) (t : Timestamp) : (r.stamp t).beepCnt = r.beepCnt := rfl
@[simp] theorem Regs.stamp_pressed (r : Regs) (t : Timestamp) : (r.stamp t).pressed = r.pressed := rfl
@[simp] theorem Regs.stamp_released (r : Regs) (t : Timestamp) : (r.stamp t).released = r.released := rfl
@[simp] theorem Regs.stamp_pressCnt (r : Regs) (t : Timestamp) : (r.stamp t).pressCnt = r.pressCnt := rfl
@[simp] theorem Regs.stamp_changed (r : Regs) (t : Timestamp) : (r.stamp t).changed = r.changed := rfl

/-! ## `Regs.bitShift` -/

@[simp] theorem Regs.bitShift_pos (r : Regs) (d a : Level) : (r.bitShift d a).pos = r.pos + 1 := rfl
@[simp] theorem Regs.bitShift_sync (r : Regs) (d a : Level) : (r.bitShift d a).sync = r.sync := rfl
@[simp] theorem Regs.bitShift_stAcc (r : Regs) (d a : Level) : (r.bitShift d a).stAcc = r.stAcc ||| placeBit 16 d (wordPlace r.pos) := rfl
@[simp] theorem Regs.bitShift_auxAcc (r : Regs) (d a : Level) : (r.bitShift d a).auxAcc = r.auxAcc ||| placeBit 16 a (wordPlace r.pos) := rfl
@[simp] theorem Regs.bitShift_keyAcc (r : Regs) (d a : Level) : (r.bitShift d a).keyAcc = r.keyAcc := rfl
@[simp] theorem Regs.bitShift_stAvail (r : Regs) (d a : Level) : (r.bitShift d a).stAvail = r.stAvail := rfl
@[simp] theorem Regs.bitShift_auxAvail (r : Regs) (d a : Level) : (r.bitShift d a).auxAvail = r.auxAvail := rfl
@[simp] theorem Regs.bitShift_keyAvail (r : Regs) (d a : Level) : (r.bitShift d a).keyAvail = r.keyAvail := rfl
@[simp] theorem Regs.bitShift_stPrev (r : Regs) (d a : Level) : (r.bitShift d a).stPrev = r.stPrev := rfl
@[simp] theorem Regs.bitShift_keyPrev (r : Regs) (d a : Level) : (r.bitShift d a).keyPrev = r.keyPrev := rfl
@[simp] theorem Regs.bitShift_frameDone (r : Regs) (d a : Level) : (r.bitShift d a).frameDone = r.frameDone := rfl
@[simp] theorem Regs.bitShift_edgeMem (r : Regs) (d a : Level) : (r.bitShift d a).edgeMem = r.edgeMem := rfl
@[simp] theorem Regs.bitShift_idleT (r : Regs) (d a : Level) : (r.bitShift d a).idleT = r.idleT := rfl
@[simp] theorem Regs.bitShift_txCode (r : Regs) (d a : Level) : (r.bitShift d a).txCode = r.txCode := rfl
@[simp] theorem Regs.bitShift_txHold (r : Regs) (d a : Level) : (r.bitShift d a).txHold = r.txHold := rfl
@[simp] theorem Regs.bitShift_txCur (r : Regs) (d a : Level) : (r.bitShift d a).txCur = r.txCur := rfl
@[simp] theorem Regs.bitShift_txActive (r : Regs) (d a : Level) : (r.bitShift d a).txActive = r.txActive := rfl
@[simp] theorem Regs.bitShift_quietCnt (r : Regs) (d a : Level) : (r.bitShift d a).quietCnt = r.quietCnt := rfl
@[simp] theorem Regs.bitShift_driveLow (r : Regs) (d a : Level) : (r.bitShift d a).driveLow = r.driveLow := rfl
@[simp] theorem Regs.bitShift_beepCnt (r : Regs) (d a : Level) : (r.bitShift d a).beepCnt = r.beepCnt := rfl
@[simp] theorem Regs.bitShift_pressed (r : Regs) (d a : Level) : (r.bitShift d a).pressed = r.pressed := rfl
@[simp] theorem Regs.bitShift_released (r : Regs) (d a : Level) : (r.bitShift d a).released = r.released := rfl
@[simp] theorem Regs.bitShift_pressCnt (r : Regs) (d a : Level) : (r.bitShift d a).pressCnt = r.pressCnt := rfl
@[simp] theorem Regs.bitShift_changed (r : Regs) (d a : Level) : (r.bitShift d a).changed = r.changed := rfl

/-! ## `Regs.takeSnapshots` -/

@[simp] theorem Regs.takeSnapshots_pos (r : Regs) : (r.takeSnapshots).pos = r.pos := rfl
@[simp] theorem Regs.takeSnapshots_sync (r : Regs) : (r.takeSnapshots).sync = r.sync := rfl
@[simp] theorem Regs.takeSnapshots_stAcc (r : Regs) : (r.takeSnapshots).stAcc = r.stAcc := rfl
@[simp] theorem Regs.takeSnapshots_auxAcc (r : Regs) : (r.takeSnapshots).auxAcc = r.auxAcc := rfl
@[simp] theorem Regs.takeSnapshots_keyAcc (r : Regs) : (r.takeSnapshots).keyAcc = r.keyAcc := rfl
@[simp] theorem Regs.takeSnapshots_stAvail (r : Regs) : (r.takeSnapshots).stAvail = r.stAcc := rfl
@[simp] theorem Regs.takeSnapshots_auxAvail (r : Regs) : (r.takeSnapshots).auxAvail = r.auxAcc := rfl
@[simp] theorem Regs.takeSnapshots_keyAvail (r : Regs) : (r.takeSnapshots).keyAvail = r.keyAcc := rfl
@[simp] theorem Regs.takeSnapshots_stPrev (r : Regs) : (r.takeSnapshots).stPrev = r.stAvail := rfl
@[simp] theorem Regs.takeSnapshots_keyPrev (r : Regs) : (r.takeSnapshots).keyPrev = r.keyAvail := rfl
@[simp] theorem Regs.takeSnapshots_frameDone (r : Regs) : (r.takeSnapshots).frameDone = r.frameDone := rfl
@[simp] theorem Regs.takeSnapshots_edgeMem (r : Regs) : (r.takeSnapshots).edgeMem = r.edgeMem := rfl
@[simp] theorem Regs.takeSnapshots_idleT (r : Regs) : (r.takeSnapshots).idleT = r.idleT := rfl
@[simp] theorem Regs.takeSnapshots_txCode (r : Regs) : (r.takeSnapshots).txCode = r.txCode := rfl
@[simp] theorem Regs.takeSnapshots_txHold (r : Regs) : (r.takeSnapshots).txHold = r.txHold := rfl
@[simp] theorem Regs.takeSnapshots_txCur (r : Regs) : (r.takeSnapshots).txCur = r.txCur := rfl
@[simp] theorem Regs.takeSnapshots_txActive (r : Regs) : (r.takeSnapshots).txActive = r.txActive := rfl
@[simp] theorem Regs.takeSnapshots_quietCnt (r : Regs) : (r.takeSnapshots).quietCnt = r.quietCnt := rfl
@[simp] theorem Regs.takeSnapshots_driveLow (r : Regs) : (r.takeSnapshots).driveLow = r.driveLow := rfl
@[simp] theorem Regs.takeSnapshots_beepCnt (r : Regs) : (r.takeSnapshots).beepCnt = r.beepCnt := rfl
@[simp] theorem Regs.takeSnapshots_pressed (r : Regs) : (r.takeSnapshots).pressed = r.pressed := rfl
@[simp] theorem Regs.takeSnapshots_released (r : Regs) : (r.takeSnapshots).released = r.released := rfl
@[simp] theorem Regs.takeSnapshots_pressCnt (r : Regs) : (r.takeSnapshots).pressCnt = r.pressCnt := rfl
@[simp] theorem Regs.takeSnapshots_changed (r : Regs) : (r.takeSnapshots).changed = r.changed := rfl

/-! ## `Regs.endFrame` -/

@[simp] theorem Regs.endFrame_pos (r : Regs) : (r.endFrame).pos = 0 := rfl
@[simp] theorem Regs.endFrame_sync (r : Regs) : (r.endFrame).sync = false := rfl
@[simp] theorem Regs.endFrame_stAcc (r : Regs) : (r.endFrame).stAcc = r.stAcc := rfl
@[simp] theorem Regs.endFrame_auxAcc (r : Regs) : (r.endFrame).auxAcc = r.auxAcc := rfl
@[simp] theorem Regs.endFrame_keyAcc (r : Regs) : (r.endFrame).keyAcc = r.keyAcc := rfl
@[simp] theorem Regs.endFrame_stAvail (r : Regs) : (r.endFrame).stAvail = r.stAvail := rfl
@[simp] theorem Regs.endFrame_auxAvail (r : Regs) : (r.endFrame).auxAvail = r.auxAvail := rfl
@[simp] theorem Regs.endFrame_keyAvail (r : Regs) : (r.endFrame).keyAvail = r.keyAvail := rfl
@[simp] theorem Regs.endFrame_stPrev (r : Regs) : (r.endFrame).stPrev = r.stPrev := rfl
@[simp] theorem Regs.endFrame_keyPrev (r : Regs) : (r.endFrame).keyPrev = r.keyPrev := rfl
@[simp] theorem Regs.endFrame_frameDone (r : Regs) : (r.endFrame).frameDone = true := rfl
@[simp] theorem Regs.endFrame_edgeMem (r : Regs) : (r.endFrame).edgeMem = r.edgeMem := rfl
@[simp] theorem Regs.endFrame_idleT (r : Regs) : (r.endFrame).idleT = r.idleT := rfl
@[simp] theorem Regs.endFrame_txCode (r : Regs) : (r.endFrame).txCode = r.txCode := rfl
@[simp] theorem Regs.endFrame_txHold (r : Regs) : (r.endFrame).txHold = r.txHold := rfl
@[simp] theorem Regs.endFrame_txCur (r : Regs) : (r.endFrame).txCur = r.txCur := rfl
@[simp] theorem Regs.endFrame_txActive (r : Regs) : (r.endFrame).txActive = r.txActive := rfl
@[simp] theorem Regs.endFrame_quietCnt (r : Regs) : (r.endFrame).quietCnt = r.quietCnt := rfl
@[simp] theorem Regs.endFrame_driveLow (r : Regs) : (r.endFrame).driveLow = r.driveLow := rfl
@[simp] theorem Regs.endFrame_beepCnt (r : Regs) : (r.endFrame).beepCnt = r.beepCnt := rfl
@[simp] theorem Regs.endFrame_pressed (r : Regs) : (r.endFrame).pressed = r.pressed := rfl
@[simp] theorem Regs.endFrame_released (r : Regs) : (r.endFrame).released = r.released := rfl
@[simp] theorem Regs.endFrame_pressCnt (r : Regs) : (r.endFrame).pressCnt = r.pressCnt := rfl
@[simp] theorem Regs.endFrame_changed (r : Regs) : (r.endFrame).changed = r.changed := rfl

/-! ## `Regs.release` -/

@[simp] theorem Regs.release_pos (r : Regs) : (r.release).pos = r.pos := rfl
@[simp] theorem Regs.release_sync (r : Regs) : (r.release).sync = r.sync := rfl
@[simp] theorem Regs.release_stAcc (r : Regs) : (r.release).stAcc = r.stAcc := rfl
@[simp] theorem Regs.release_auxAcc (r : Regs) : (r.release).auxAcc = r.auxAcc := rfl
@[simp] theorem Regs.release_keyAcc (r : Regs) : (r.release).keyAcc = r.keyAcc := rfl
@[simp] theorem Regs.release_stAvail (r : Regs) : (r.release).stAvail = r.stAvail := rfl
@[simp] theorem Regs.release_auxAvail (r : Regs) : (r.release).auxAvail = r.auxAvail := rfl
@[simp] theorem Regs.release_keyAvail (r : Regs) : (r.release).keyAvail = r.keyAvail := rfl
@[simp] theorem Regs.release_stPrev (r : Regs) : (r.release).stPrev = r.stPrev := rfl
@[simp] theorem Regs.release_keyPrev (r : Regs) : (r.release).keyPrev = r.keyPrev := rfl
@[simp] theorem Regs.release_frameDone (r : Regs) : (r.release).frameDone = r.frameDone := rfl
@[simp] theorem Regs.release_edgeMem (r : Regs) : (r.release).edgeMem = r.edgeMem := rfl
@[simp] theorem Regs.release_idleT (r : Regs) : (r.release).idleT = r.idleT := rfl
@[simp] theorem Regs.release_txCode (r : Regs) : (r.release).txCode = r.txCode := rfl
@[simp] theorem Regs.release_txHold (r : Regs) : (r.release).txHold = r.txHold := rfl
@[simp] theorem Regs.release_txCur (r : Regs) : (r.release).txCur = r.txCur := rfl
@[simp] theorem Regs.release_txActive (r : Regs) : (r.release).txActive = r.txActive := rfl
@[simp] theorem Regs.release_quietCnt (r : Regs) : (r.release).quietCnt = r.quietCnt := rfl
@[simp] theorem Regs.release_driveLow (r : Regs) : (r.release).driveLow = false := rfl
@[simp] theorem Regs.release_beepCnt (r : Regs) : (r.release).beepCnt = r.beepCnt := rfl
@[simp] theorem Regs.release_pressed (r : Regs) : (r.release).pressed = r.pressed := rfl
@[simp] theorem Regs.release_released (r : Regs) : (r.release).released = r.released := rfl
@[simp] theorem Regs.release_pressCnt (r : Regs) : (r.release).pressCnt = r.pressCnt := rfl
@[simp] theorem Regs.release_changed (r : Regs) : (r.release).changed = r.changed := rfl

/-! ## `Regs.txEnd` -/

@[simp] theorem Regs.txEnd_pos (r : Regs) : (r.txEnd).pos = r.pos := rfl
@[simp] theorem Regs.txEnd_sync (r : Regs) : (r.txEnd).sync = r.sync := rfl
@[simp] theorem Regs.txEnd_stAcc (r : Regs) : (r.txEnd).stAcc = r.stAcc := rfl
@[simp] theorem Regs.txEnd_auxAcc (r : Regs) : (r.txEnd).auxAcc = r.auxAcc := rfl
@[simp] theorem Regs.txEnd_keyAcc (r : Regs) : (r.txEnd).keyAcc = r.keyAcc := rfl
@[simp] theorem Regs.txEnd_stAvail (r : Regs) : (r.txEnd).stAvail = r.stAvail := rfl
@[simp] theorem Regs.txEnd_auxAvail (r : Regs) : (r.txEnd).auxAvail = r.auxAvail := rfl
@[simp] theorem Regs.txEnd_keyAvail (r : Regs) : (r.txEnd).keyAvail = r.keyAvail := rfl
@[simp] theorem Regs.txEnd_stPrev (r : Regs) : (r.txEnd).stPrev = r.stPrev := rfl
@[simp] theorem Regs.txEnd_keyPrev (r : Regs) : (r.txEnd).keyPrev = r.keyPrev := rfl
@[simp] theorem Regs.txEnd_frameDone (r : Regs) : (r.txEnd).frameDone = r.frameDone := rfl
@[simp] theorem Regs.txEnd_edgeMem (r : Regs) : (r.txEnd).edgeMem = r.edgeMem := rfl
@[simp] theorem Regs.txEnd_idleT (r : Regs) : (r.txEnd).idleT = r.idleT := rfl
@[simp] theorem Regs.txEnd_txCode (r : Regs) : (r.txEnd).txCode = r.txCode := rfl
@[simp] theorem Regs.txEnd_txHold (r : Regs) : (r.txEnd).txHold = r.txHold := rfl
@[simp] theorem Regs.txEnd_txCur (r : Regs) : (r.txEnd).txCur = r.txCur := rfl
@[simp] theorem Regs.txEnd_txActive (r : Regs) : (r.txEnd).txActive = false := rfl
@[simp] theorem Regs.txEnd_quietCnt (r : Regs) : (r.txEnd).quietCnt = r.quietCnt := rfl
@[simp] theorem Regs.txEnd_driveLow (r : Regs) : (r.txEnd).driveLow = r.driveLow := rfl
@[simp] theorem Regs.txEnd_beepCnt (r : Regs) : (r.txEnd).beepCnt = r.beepCnt := rfl
@[simp] theorem Regs.txEnd_pressed (r : Regs) : (r.txEnd).pressed = r.pressed := rfl
@[simp] theorem Regs.txEnd_released (r : Regs) : (r.txEnd).released = r.released := rfl
@[simp] theorem Regs.txEnd_pressCnt (r : Regs) : (r.txEnd).pressCnt = r.pressCnt := rfl
@[simp] theorem Regs.txEnd_changed (r : Regs) : (r.txEnd).changed = r.changed := rfl

/-! ## `Regs.holdCountdown` -/

@[simp] theorem Regs.holdCountdown_pos (r : Regs) : (r.holdCountdown).pos = r.pos := rfl
@[simp] theorem Regs.holdCountdown_sync (r : Regs) : (r.holdCountdown).sync = r.sync := rfl
@[simp] theorem Regs.holdCountdown_stAcc (r : Regs) : (r.holdCountdown).stAcc = r.stAcc := rfl
@[simp] theorem Regs.holdCountdown_auxAcc (r : Regs) : (r.holdCountdown).auxAcc = r.auxAcc := rfl
@[simp] theorem Regs.holdCountdown_keyAcc (r : Regs) : (r.holdCountdown).keyAcc = r.keyAcc := rfl
@[simp] theorem Regs.holdCountdown_stAvail (r : Regs) : (r.holdCountdown).stAvail = r.stAvail := rfl
@[simp] theorem Regs.holdCountdown_auxAvail (r : Regs) : (r.holdCountdown).auxAvail = r.auxAvail := rfl
@[simp] theorem Regs.holdCountdown_keyAvail (r : Regs) : (r.holdCountdown).keyAvail = r.keyAvail := rfl
@[simp] theorem Regs.holdCountdown_stPrev (r : Regs) : (r.holdCountdown).stPrev = r.stPrev := rfl
@[simp] theorem Regs.holdCountdown_keyPrev (r : Regs) : (r.holdCountdown).keyPrev = r.keyPrev := rfl
@[simp] theorem Regs.holdCountdown_frameDone (r : Regs) : (r.holdCountdown).frameDone = r.frameDone := rfl
@[simp] theorem Regs.holdCountdown_edgeMem (r : Regs) : (r.holdCountdown).edgeMem = r.edgeMem := rfl
@[simp] theorem Regs.holdCountdown_idleT (r : Regs) : (r.holdCountdown).idleT = r.idleT := rfl
@[simp] theorem Regs.holdCountdown_txCode (r : Regs) : (r.holdCountdown).txCode = if r.txHold - 1 = 0 then 0 else r.txCode := rfl
@[simp] theorem Regs.holdCountdown_txHold (r : Regs) : (r.holdCountdown).txHold = r.txHold - 1 := rfl
@[simp] theorem Regs.holdCountdown_txCur (r : Regs) : (r.holdCountdown).txCur = r.txCur := rfl
@[simp] theorem Regs.holdCountdown_txActive (r : Regs) : (r.holdCountdown).txActive = r.txActive := rfl
@[simp] theorem Regs.holdCountdown_quietCnt (r : Regs) : (r.holdCountdown).quietCnt = r.quietCnt := rfl
@[simp] theorem Regs.holdCountdown_driveLow (r : Regs) : (r.holdCountdown).driveLow = r.driveLow := rfl
@[simp] theorem Regs.holdCountdown_beepCnt (r : Regs) : (r.holdCountdown).beepCnt = r.beepCnt := rfl
@[simp] theorem Regs.holdCountdown_pressed (r : Regs) : (r.holdCountdown).pressed = r.pressed := rfl
@[simp] theorem Regs.holdCountdown_released (r : Regs) : (r.holdCountdown).released = r.released := rfl
@[simp] theorem Regs.holdCountdown_pressCnt (r : Regs) : (r.holdCountdown).pressCnt = r.pressCnt := rfl
@[simp] theorem Regs.holdCountdown_changed (r : Regs) : (r.holdCountdown).changed = r.changed := rfl

/-! ## `Regs.driveSlot` -/

@[simp] theorem Regs.driveSlot_pos (r : Regs) : (r.driveSlot).pos = r.pos := rfl
@[simp] theorem Regs.driveSlot_sync (r : Regs) : (r.driveSlot).sync = r.sync := rfl
@[simp] theorem Regs.driveSlot_stAcc (r : Regs) : (r.driveSlot).stAcc = r.stAcc := rfl
@[simp] theorem Regs.driveSlot_auxAcc (r : Regs) : (r.driveSlot).auxAcc = r.auxAcc := rfl
@[simp] theorem Regs.driveSlot_keyAcc (r : Regs) : (r.driveSlot).keyAcc = r.keyAcc := rfl
@[simp] theorem Regs.driveSlot_stAvail (r : Regs) : (r.driveSlot).stAvail = r.stAvail := rfl
@[simp] theorem Regs.driveSlot_auxAvail (r : Regs) : (r.driveSlot).auxAvail = r.auxAvail := rfl
@[simp] theorem Regs.driveSlot_keyAvail (r : Regs) : (r.driveSlot).keyAvail = r.keyAvail := rfl
@[simp] theorem Regs.driveSlot_stPrev (r : Regs) : (r.driveSlot).stPrev = r.stPrev := rfl
@[simp] theorem Regs.driveSlot_keyPrev (r : Regs) : (r.driveSlot).keyPrev = r.keyPrev := rfl
@[simp] theorem Regs.driveSlot_frameDone (r : Regs) : (r.driveSlot).frameDone = r.frameDone := rfl
@[simp] theorem Regs.driveSlot_edgeMem (r : Regs) : (r.driveSlot).edgeMem = r.edgeMem := rfl
@[simp] theorem Regs.driveSlot_idleT (r : Regs) : (r.driveSlot).idleT = r.idleT := rfl
@[simp] theorem Regs.driveSlot_txCode (r : Regs) : (r.driveSlot).txCode = r.txCode := rfl
@[simp] theorem Regs.driveSlot_txHold (r : Regs) : (r.driveSlot).txHold = r.txHold := rfl
@[simp] theorem Regs.driveSlot_txCur (r : Regs) : (r.driveSlot).txCur = r.txCur + 1 := rfl
@[simp] theorem Regs.driveSlot_txActive (r : Regs) : (r.driveSlot).txActive = r.txActive := rfl
@[simp] theorem Regs.driveSlot_quietCnt (r : Regs) : (r.driveSlot).quietCnt = r.quietCnt := rfl
@[simp] theorem Regs.driveSlot_driveLow (r : Regs) : (r.driveSlot).driveLow = if r.txCode.getLsbD (slotPlace r.txCur) then true else r.driveLow := rfl
@[simp] theorem Regs.driveSlot_beepCnt (r : Regs) : (r.driveSlot).beepCnt = r.beepCnt := rfl
@[simp] theorem Regs.driveSlot_pressed (r : Regs) : (r.driveSlot).pressed = r.pressed := rfl
@[simp] theorem Regs.driveSlot_released (r : Regs) : (r.driveSlot).released = r.released := rfl
@[simp] theorem Regs.driveSlot_pressCnt (r : Regs) : (r.driveSlot).pressCnt = r.pressCnt := rfl
@[simp] theorem Regs.driveSlot_changed (r : Regs) : (r.driveSlot).changed = r.changed := rfl

/-! ## `Regs.changeUpdate` -/

@[simp] theorem Regs.changeUpdate_pos (r : Regs) : (r.changeUpdate).pos = r.pos := rfl
@[simp] theorem Regs.changeUpdate_sync (r : Regs) : (r.changeUpdate).sync = r.sync := rfl
@[simp] theorem Regs.changeUpdate_stAcc (r : Regs) : (r.changeUpdate).stAcc = r.stAcc := rfl
@[simp] theorem Regs.changeUpdate_auxAcc (r : Regs) : (r.changeUpdate).auxAcc = r.auxAcc := rfl
@[simp] theorem Regs.changeUpdate_keyAcc (r : Regs) : (r.changeUpdate).keyAcc = r.keyAcc := rfl
@[simp] theorem Regs.changeUpdate_stAvail (r : Regs) : (r.changeUpdate).stAvail = r.stAvail := rfl
@[simp] theorem Regs.changeUpdate_auxAvail (r : Regs) : (r.changeUpdate).auxAvail = r.auxAvail := rfl
@[simp] theorem Regs.changeUpdate_keyAvail (r : Regs) : (r.changeUpdate).keyAvail = r.keyAvail := rfl
@[simp] theorem Regs.changeUpdate_stPrev (r : Regs) : (r.changeUpdate).stPrev = r.stPrev := rfl
@[simp] theorem Regs.changeUpdate_keyPrev (r : Regs) : (r.changeUpdate).keyPrev = r.keyPrev := rfl
@[simp] theorem Regs.changeUpdate_frameDone (r : Regs) : (r.changeUpdate).frameDone = r.frameDone := rfl
@[simp] theorem Regs.changeUpdate_edgeMem (r : Regs) : (r.changeUpdate).edgeMem = r.edgeMem := rfl
@[simp] theorem Regs.changeUpdate_idleT (r : Regs) : (r.changeUpdate).idleT = r.idleT := rfl
@[simp] theorem Regs.changeUpdate_txCode (r : Regs) : (r.changeUpdate).txCode = r.txCode := rfl
@[simp] theorem Regs.changeUpdate_txHold (r : Regs) : (r.changeUpdate).txHold = r.txHold := rfl
@[simp] theorem Regs.changeUpdate_txCur (r : Regs) : (r.changeUpdate).txCur = r.txCur := rfl
@[simp] theorem Regs.changeUpdate_txActive (r : Regs) : (r.changeUpdate).txActive = r.txActive := rfl
@[simp] theorem Regs.changeUpdate_quietCnt (r : Regs) : (r.changeUpdate).quietCnt = r.quietCnt := rfl
@[simp] theorem Regs.changeUpdate_driveLow (r : Regs) : (r.changeUpdate).driveLow = r.driveLow := rfl
@[simp] theorem Regs.changeUpdate_beepCnt (r : Regs) : (r.changeUpdate).beepCnt = r.beepCnt := rfl
@[simp] theorem Regs.changeUpdate_pressed (r : Regs) : (r.changeUpdate).pressed = r.pressed := rfl
@[simp] theorem Regs.changeUpdate_released (r : Regs) : (r.changeUpdate).released = r.released := rfl
@[simp] theorem Regs.changeUpdate_pressCnt (r : Regs) : (r.changeUpdate).pressCnt = r.pressCnt := rfl
@[simp] theorem Regs.changeUpdate_changed (r : Regs) : (r.changeUpdate).changed = decide (r.stAvail ≠ r.stPrev) := rfl

/-! ## `Regs.beepUpdate` -/

@[simp] theorem Regs.beepUpdate_pos (p : Params) (r : Regs) : (r.beepUpdate p).pos = r.pos := rfl
@[simp] theorem Regs.beepUpdate_sync (p : Params) (r : Regs) : (r.beepUpdate p).sync = r.sync := rfl
@[simp] theorem Regs.beepUpdate_stAcc (p : Params) (r : Regs) : (r.beepUpdate p).stAcc = r.stAcc := rfl
@[simp] theorem Regs.beepUpdate_auxAcc (p : Params) (r : Regs) : (r.beepUpdate p).auxAcc = r.auxAcc := rfl
@[simp] theorem Regs.beepUpdate_keyAcc (p : Params) (r : Regs) : (r.beepUpdate p).keyAcc = r.keyAcc := rfl
@[simp] theorem Regs.beepUpdate_stAvail (p : Params) (r : Regs) : (r.beepUpdate p).stAvail = r.stAvail := rfl
@[simp] theorem Regs.beepUpdate_auxAvail (p : Params) (r : Regs) : (r.beepUpdate p).auxAvail = r.auxAvail := rfl
@[simp] theorem Regs.beepUpdate_keyAvail (p : Params) (r : Regs) : (r.beepUpdate p).keyAvail = r.keyAvail := rfl
@[simp] theorem Regs.beepUpdate_stPrev (p : Params) (r : Regs) : (r.beepUpdate p).stPrev = r.stPrev := rfl
@[simp] theorem Regs.beepUpdate_keyPrev (p : Params) (r : Regs) : (r.beepUpdate p).keyPrev = r.keyPrev := rfl
@[simp] theorem Regs.beepUpdate_frameDone (p : Params) (r : Regs) : (r.beepUpdate p).frameDone = r.frameDone := rfl
@[simp] theorem Regs.beepUpdate_edgeMem (p : Params) (r : Regs) : (r.beepUpdate p).edgeMem = r.edgeMem := rfl
@[simp] theorem Regs.beepUpdate_idleT (p : Params) (r : Regs) : (r.beepUpdate p).idleT = r.idleT := rfl
@[simp] theorem Regs.beepUpdate_txCode (p : Params) (r : Regs) : (r.beepUpdate p).txCode = r.txCode := rfl
@[simp] theorem Regs.beepUpdate_txHold (p : Params) (r : Regs) : (r.beepUpdate p).txHold = r.txHold := rfl
@[simp] theorem Regs.beepUpdate_txCur (p : Params) (r : Regs) : (r.beepUpdate p).txCur = r.txCur := rfl
@[simp] theorem Regs.beepUpdate_txActive (p : Params) (r : Regs) : (r.beepUpdate p).txActive = r.txActive := rfl
@[simp] theorem Regs.beepUpdate_quietCnt (p : Params) (r : Regs) : (r.beepUpdate p).quietCnt = r.quietCnt := rfl
@[simp] theorem Regs.beepUpdate_driveLow (p : Params) (r : Regs) : (r.beepUpdate p).driveLow = r.driveLow := rfl
@[simp] theorem Regs.beepUpdate_beepCnt (p : Params) (r : Regs) : (r.beepUpdate p).beepCnt = if statusField p r .beep then satInc r.beepCnt else 0 := rfl
@[simp] theorem Regs.beepUpdate_pressed (p : Params) (r : Regs) : (r.beepUpdate p).pressed = r.pressed := rfl
@[simp] theorem Regs.beepUpdate_released (p : Params) (r : Regs) : (r.beepUpdate p).released = r.released := rfl
@[simp] theorem Regs.beepUpdate_pressCnt (p : Params) (r : Regs) : (r.beepUpdate p).pressCnt = r.pressCnt := rfl
@[simp] theorem Regs.beepUpdate_changed (p : Params) (r : Regs) : (r.beepUpdate p).changed = r.changed := rfl

/-! ## `Regs.request` -/

@[simp] theorem Regs.request_pos (p : Params) (y : Symbol) (n : Nat) (r : Regs) : (r.request p y n).pos = r.pos := rfl
@[simp] theorem Regs.request_sync (p : Params) (y : Symbol) (n : Nat) (r : Regs) : (r.request p y n).sync = r.sync := rfl
@[simp] theorem Regs.request_stAcc (p : Params) (y : Symbol) (n : Nat) (r : Regs) : (r.request p y n).stAcc = r.stAcc := rfl
@[simp] theorem Regs.request_auxAcc (p : Params) (y : Symbol) (n : Nat) (r : Regs) : (r.request p y n).auxAcc = r.auxAcc := rfl
@[simp] theorem Regs.request_keyAcc (p : Params) (y : Symbol) (n : Nat) (r : Regs) : (r.request p y n).keyAcc = r.keyAcc := rfl
@[simp] theorem Regs.request_stAvail (p : Params) (y : Symbol) (n : Nat) (r : Regs) : (r.request p y n).stAvail = r.stAvail := rfl
@[simp] theorem Regs.request_auxAvail (p : Params) (y : Symbol) (n : Nat) (r : Regs) : (r.request p y n).auxAvail = r.auxAvail := rfl
@[simp] theorem Regs.request_keyAvail (p : Params) (y : Symbol) (n : Nat) (r : Regs) : (r.request p y n).keyAvail = r.keyAvail := rfl
@[simp] theorem Regs.request_stPrev (p : Params) (y : Symbol) (n : Nat) (r : Regs) : (r.request p y n).stPrev = r.stPrev := rfl
@[simp] theorem Regs.request_keyPrev (p : Params) (y : Symbol) (n : Nat) (r : Regs) : (r.request p y n).keyPrev = r.keyPrev := rfl
@[simp] theorem Regs.request_frameDone (p : Params) (y : Symbol) (n : Nat) (r : Regs) : (r.request p y n).frameDone = r.frameDone := rfl
@[simp] theorem Regs.request_edgeMem (p : Params) (y : Symbol) (n : Nat) (r : Regs) : (r.request p y n).edgeMem = r.edgeMem := rfl
@[simp] theorem Regs.request_idleT (p : Params) (y : Symbol) (n : Nat) (r : Regs) : (r.request p y n).idleT = r.idleT := rfl
@[simp] theorem Regs.request_txCode (p : Params) (y : Symbol) (n : Nat) (r : Regs) : (r.request p y n).txCode = encodeSymbol p y := rfl
@[simp] theorem Regs.request_txHold (p : Params) (y : Symbol) (n : Nat) (r : Regs) : (r.request p y n).txHold = BitVec.ofNat 8 n := rfl
@[simp] theorem Regs.request_txCur (p : Params) (y : Symbol) (n : Nat) (r : Regs) : (r.request p y n).txCur = 0 := rfl
@[simp] theorem Regs.request_txActive (p : Params) (y : Symbol) (n : Nat) (r : Regs) : (r.request p y n).txActive = r.txActive := rfl
@[simp] theorem Regs.request_quietCnt (p : Params) (y : Symbol) (n : Nat) (r : Regs) : (r.request p y n).quietCnt = r.quietCnt := rfl
@[simp] theorem Regs.request_driveLow (p : Params) (y : Symbol) (n : Nat) (r : Regs) : (r.request p y n).driveLow = r.driveLow := rfl
@[simp] theorem Regs.request_beepCnt (p : Params) (y : Symbol) (n : Nat) (r : Regs) : (r.request p y n).beepCnt = r.beepCnt := rfl
@[simp] theorem Regs.request_pressed (p : Params) (y : Symbol) (n : Nat) (r : Regs) : (r.request p y n).pressed = r.pressed := rfl
@[simp] theorem Regs.request_released (p : Params) (y : Symbol) (n : Nat) (r : Regs) : (r.request p y n).released = r.released := rfl
@[simp] theorem Regs.request_pressCnt (p : Params) (y : Symbol) (n : Nat) (r : Regs) : (r.request p y n).pressCnt = r.pressCnt := rfl
@[simp] theorem Regs.request_changed (p : Params) (y : Symbol) (n : Nat) (r : Regs) : (r.request p y n).changed = r.changed := rfl

end Sys2Proof.Machine
end

