-- ==== Sys2Proof/Laws/Ops.lean ====
section
/-! SUPPORT. Laws/Ops.lean: for each shared operation of Machine/Ops.lean, Operands.lean and Flags.lean,
the lemma that says what it does. -/

namespace Sys2Proof.Machine

/-! ## Arithmetic -/

theorem subTs_toNat (a b : Timestamp) : (subTs a b).toNat = (2 ^ 32 - b.toNat + a.toNat) % 2 ^ 32 := by
  simp [subTs, BitVec.toNat_sub]

/-- `sat_inc` counts one more and stays at the top. -/
theorem satInc_toNat (c : Count) : (satInc c).toNat = min (c.toNat + 1) 65535 := by
  have := c.isLt
  unfold satInc
  split
  · rw [BitVec.toNat_add]; simp; omega
  · omega

theorem satInc_ne_zero (c : Count) : satInc c ≠ 0 := by
  intro h
  have := congrArg BitVec.toNat h
  rw [satInc_toNat] at this
  simp at this

/-- A placed bit is `b` at its place and 0 elsewhere. -/
theorem placeBit_getLsbD (w : Nat) (b : Bool) (i j : Nat) (h : j < w) :
    (placeBit w b i).getLsbD j = (decide (j = i) && b) := by
  unfold placeBit
  cases b <;> simp [h, eq_comm]

theorem keyPlace_iff (p : BitVec 5) (h : p.toNat ≤ 7) (i : Nat) :
    i = keyPlace p ↔ i + p.toNat = 7 := by unfold keyPlace; omega

theorem wordPlace_iff (p : BitVec 5) (h : p.toNat ≤ 15) (i : Nat) :
    i = wordPlace p ↔ i + p.toNat = 15 := by unfold wordPlace; omega

/-! ## Conditions -/

theorem inGap_iff (r : Regs) (now : Timestamp) : inGap r now = true ↔ r.gapAt now := by
  unfold inGap; rw [decide_eq_true_iff]; exact Iff.rfl

theorem inKeyWindow_iff (r : Regs) : inKeyWindow r = true ↔ 1 ≤ r.pos.toNat ∧ r.pos.toNat ≤ 7 := by
  unfold inKeyWindow; rw [decide_eq_true_iff]; exact Iff.rfl

theorem atTxEnd_iff (r : Regs) : atTxEnd r = true ↔ 8 ≤ r.pos.toNat := by
  unfold atTxEnd; rw [decide_eq_true_iff]; exact Iff.rfl

theorem hasSlot_iff (r : Regs) : hasSlot r = true ↔ r.txActive = true ∧ r.txCur.toNat < 7 := by
  unfold hasSlot; rw [Bool.and_eq_true, decide_eq_true_iff]; exact Iff.rfl

theorem atFrameEnd_iff (r : Regs) : atFrameEnd r = true ↔ r.pos.toNat = 16 := by
  unfold atFrameEnd; rw [decide_eq_true_iff]; exact Iff.rfl

theorem pending_iff (r : Regs) : pending r = true ↔ r.txCode ≠ 0 := by simp [pending]

theorem masked_iff (w m : Word) : masked w m = true ↔ w &&& m ≠ 0 := by simp [masked]

/-- Under a one-hot mask `(w & m) != 0` is one bit of the word. -/
theorem masked_twoPow (w : Word) (k : Nat) (h : k < 16) :
    masked w (BitVec.twoPow 16 k) = w.getLsbD k := by
  unfold masked
  rw [BitVec.and_twoPow]
  by_cases hb : w.getLsbD k
  · have : BitVec.twoPow 16 k ≠ 0#16 := by
      intro h0
      have := congrArg (fun x => BitVec.getLsbD x k) h0
      simp [h] at this
    simp [hb, this]
  · simp [hb]

/-- The four tests of SEND_KEY. -/
theorem accepts_iff (p : Params) (sym : Symbol) (n : Nat) (r : Regs) :
    accepts p sym n r = true ↔
      encodeSymbol p sym ≠ 0 ∧ r.txCode = 0 ∧ p.minQuiet.toNat ≤ r.quietCnt.toNat ∧ n ≠ 0 := by
  simp [accepts, pending, quietServed, and_assoc]

theorem ready_iff (p : Params) (r : Regs) :
    ready p r = true ↔ r.txCode = 0 ∧ p.minQuiet.toNat ≤ r.quietCnt.toNat := by
  simp [ready, pending, quietServed]

/-! ## The indexed operands -/

theorem zoneField_eq (i : Fin 6) : zoneField (i.val + 1) = some (.zone i) := by
  revert i; decide

theorem lightField_eq (j : Fin 5) : lightField (j.val + 1) = some (.light j) := by
  revert j; decide

theorem buttonField_eq (b : Fin 3) : buttonField (b.val + 1) = some (.button b) := by
  revert b; decide

theorem trippedField_eq (i : Fin 6) : trippedField (i.val + 1) = some (.tripped i) := by
  revert i; decide

/-! ## The host port -/

@[simp] theorem readRecord_operands (s : State) (r : PortRecord) :
    (readRecord s r).operands = r.operands := rfl

@[simp] theorem readRecord_ev (s : State) (r : PortRecord) :
    (readRecord s r).ev = eventWord s.regs.edgeMem r.ev := rfl

/-- Outside class 00 the event word is read as it stands at the port. -/
theorem eventWord_of_class (e : Level) (ev : BitVec 7) (h : evClass ev ≠ 0) : eventWord e ev = ev := by
  simp [eventWord, h]

theorem fetch_cons {s : State} {r : PortRecord} {rest : List PortRecord} (h : s.script = r :: rest) :
    fetch s = some (readRecord s r, { s with script := rest }) := by
  simp [fetch, h]

theorem fetch_nil {s : State} (h : s.script = []) : fetch s = none := by
  simp [fetch, h]

/-- The next poll takes the environment's first sample, or a free one when there is none. -/
theorem nextSample_cases (s : State) :
    (∃ y rest, s.env = y :: rest ∧ nextSample s = (y, { s with env := rest })) ∨
    (s.env = [] ∧ nextSample s = (Config.freeSample s.polls, { s with polls := s.polls + 1 })) := by
  cases h : s.env with
  | nil => exact .inr ⟨rfl, by simp [nextSample, h]⟩
  | cons y rest => exact .inl ⟨y, rest, rfl, by simp [nextSample, h]⟩

@[simp] theorem nextSample_regs (s : State) : (nextSample s).2.regs = s.regs := by
  rcases nextSample_cases s with ⟨y, rest, -, h⟩ | ⟨-, h⟩ <;> rw [h]

@[simp] theorem nextSample_script (s : State) : (nextSample s).2.script = s.script := by
  rcases nextSample_cases s with ⟨y, rest, -, h⟩ | ⟨-, h⟩ <;> rw [h]

@[simp] theorem again_regs (i : Instr) (s : State) : (again i s).regs = s.regs := rfl

@[simp] theorem again_script (i : Instr) (s : State) : (again i s).script = encode i :: s.script := rfl

@[simp] theorem again_result (i : Instr) (s : State) : (again i s).result = s.result := rfl

@[simp] theorem again_env (i : Instr) (s : State) : (again i s).env = s.env := rfl

@[simp] theorem again_polls (i : Instr) (s : State) : (again i s).polls = s.polls := rfl

end Sys2Proof.Machine
end

