-- ==== Sys2Proof/Laws/Decode.lean ====
section
/-! SUPPORT. Laws/Decode.lean: what the encoder writes and what the decoder reads of it, piece by piece. -/

namespace Sys2Proof

/-! ## The event word -/

theorem decode_of_class0 {r : PortRecord} (h : evClass r.ev = 0) : decode r = decodeTick r := by
  unfold decode; rw [h]; rfl

theorem decode_of_class1 {r : PortRecord} (h : evClass r.ev = 1) : decode r = decodeCommand r := by
  unfold decode; rw [h]; rfl

theorem decode_of_class2 {r : PortRecord} (h : evClass r.ev = 2) : decode r = decodeReset r := by
  unfold decode; rw [h]; rfl

theorem tickRecord_ev (e c d a b : Level) (n : Timestamp) :
    (tickRecord e c d a b n).ev = (0#5 ++ BitVec.ofBool e ++ BitVec.ofBool c : BitVec 7) := rfl

theorem commandRecord_ev (k : BitVec 5) (w : BitVec 40) :
    (commandRecord k w).ev = (0b01#2 ++ k : BitVec 7) := rfl

/-- A command's record is read by its number. -/
theorem decode_commandRecord (k : BitVec 5) (w : BitVec 40) :
    decode (commandRecord k w) = decodeCommand (commandRecord k w) :=
  decode_of_class1 (by rw [commandRecord_ev]; revert k; decide)

theorem evNumber_commandRecord (k : BitVec 5) (w : BitVec 40) :
    evNumber (commandRecord k w).ev = k.toNat := by
  rw [commandRecord_ev]; revert k; decide

/-- In a class 00 word the read replaces bit 1 and leaves the rest. -/
theorem eventWord_tickRecord (e' e c d a b : Level) (n : Timestamp) :
    Machine.eventWord e' (tickRecord e c d a b n).ev = (tickRecord e' c d a b n).ev := by
  rw [tickRecord_ev, tickRecord_ev]; revert e' e c; decide

/-! ## The operand wires -/

theorem tickRecord_data (e c d a b : Level) (n : Timestamp) : (tickRecord e c d a b n).data = d := by
  change (n ++ (0#5 ++ BitVec.ofBool b ++ BitVec.ofBool a ++ BitVec.ofBool d : BitVec 8) : BitVec 40).getLsbD 0 = d
  rw [BitVec.getLsbD_append, if_pos (by omega)]
  cases a <;> cases b <;> cases d <;> decide

theorem tickRecord_aux (e c d a b : Level) (n : Timestamp) : (tickRecord e c d a b n).aux = a := by
  change (n ++ (0#5 ++ BitVec.ofBool b ++ BitVec.ofBool a ++ BitVec.ofBool d : BitVec 8) : BitVec 40).getLsbD 1 = a
  rw [BitVec.getLsbD_append, if_pos (by omega)]
  cases a <;> cases b <;> cases d <;> decide

theorem tickRecord_data2 (e c d a b : Level) (n : Timestamp) : (tickRecord e c d a b n).data2 = b := by
  change (n ++ (0#5 ++ BitVec.ofBool b ++ BitVec.ofBool a ++ BitVec.ofBool d : BitVec 8) : BitVec 40).getLsbD 2 = b
  rw [BitVec.getLsbD_append, if_pos (by omega)]
  cases a <;> cases b <;> cases d <;> decide

theorem tickRecord_now (e c d a b : Level) (n : Timestamp) : (tickRecord e c d a b n).now = n := by
  change (n ++ (0#5 ++ BitVec.ofBool b ++ BitVec.ofBool a ++ BitVec.ofBool d : BitVec 8) : BitVec 40).extractLsb' 8 32 = n
  ext i hi
  simp only [BitVec.getElem_extractLsb']
  rw [BitVec.getLsbD_append, if_neg (by omega)]
  simp [hi]

theorem ofChar_char (k : KeySymbol) : KeySymbol.ofChar k.char = some k := by
  cases k <;> decide

/-- The index of an indexed query comes back from its wires. -/
theorem index_indexWires (k : BitVec 5) (i : Nat) (h : 1 ≤ i) (h' : i ≤ 256) :
    (commandRecord k (indexWires i)).index = i := by
  have hb : (indexWires i).extractLsb' 0 8 = BitVec.ofNat 8 (i - 1) := by
    unfold indexWires
    ext j hj
    simp only [BitVec.getElem_extractLsb', Nat.zero_add]
    rw [BitVec.getLsbD_append, if_pos hj]
    simp [hj]
  change ((indexWires i).extractLsb' 0 8).toNat + 1 = i
  rw [hb, BitVec.toNat_ofNat]
  omega

/-- SEND_KEY's symbol comes back from its wires. -/
theorem symbol_sendKeyWires (k : BitVec 5) (sym : Symbol) (n : Nat) (h : sym.wf = true) :
    (commandRecord k (sendKeyWires sym n)).symbol = sym := by
  have hb : (commandRecord k (sendKeyWires sym n)).operands.extractLsb' 0 8 = sym.char := by
    change (0#16 ++ BitVec.ofNat 16 n ++ sym.char : BitVec 40).extractLsb' 0 8 = _
    ext i hi
    simp only [BitVec.getElem_extractLsb', Nat.zero_add]
    rw [BitVec.getLsbD_append, if_pos hi]
    simp [hi]
  unfold PortRecord.symbol
  rw [hb]
  cases sym with
  | key k => simp [Symbol.char, ofChar_char]
  | other c => simp [Symbol.wf] at h; simp [Symbol.char, h]

/-- SEND_KEY's count comes back from its wires. -/
theorem hold_sendKeyWires (k : BitVec 5) (sym : Symbol) (n : Nat) (h : n < 2 ^ 16) :
    (commandRecord k (sendKeyWires sym n)).hold = n := by
  have hb : (commandRecord k (sendKeyWires sym n)).operands.extractLsb' 8 16 = BitVec.ofNat 16 n := by
    change (0#16 ++ BitVec.ofNat 16 n ++ sym.char : BitVec 40).extractLsb' 8 16 = _
    ext i hi
    simp only [BitVec.getElem_extractLsb']
    rw [BitVec.getLsbD_append, if_neg (by omega), BitVec.getLsbD_append, if_pos (by omega)]
    simp [hi]
  unfold PortRecord.hold
  rw [hb, BitVec.toNat_ofNat]
  omega

/-! ## Whole records -/

/-- The case of TICK with the given edge memory and clock (R106 to R109). -/
def tickCase (e c : Level) (d a b : Level) (n : Timestamp) : Instr :=
  match e, c with
  | false, false => .tickLow d a b n
  | false, true => .tickRise d a b n
  | true, false => .tickFall d a b n
  | true, true => .tickHigh d a b n

/-- A tick's record is read as the case its word names. -/
theorem decode_tickRecord (e c d a b : Level) (n : Timestamp) :
    decode (tickRecord e c d a b n) = .ok (tickCase e c d a b n) := by
  rw [decode_of_class0 (by rw [tickRecord_ev]; revert e c; decide)]
  unfold decodeTick
  rw [tickRecord_data, tickRecord_aux, tickRecord_data2, tickRecord_now,
    if_neg (by rw [tickRecord_ev]; revert e c; decide)]
  have e1 : (tickRecord e c d a b n).ev.getLsbD 1 = e := by rw [tickRecord_ev]; revert e c; decide
  have e0 : (tickRecord e c d a b n).ev.getLsbD 0 = c := by rw [tickRecord_ev]; clear e1; revert e c; decide
  rw [e1, e0]
  cases e <;> cases c <;> rfl

/-- What has no event word of its own is written with a tick's (R79). -/
theorem encode_of_not_event {i : Instr} (h : i.isEvent = false) :
    ∃ e c d a b n, encode i = tickRecord e c d a b n := by
  cases i with
  | tick clk data aux data2 now => exact ⟨false, clk, data, aux, data2, now, rfl⟩
  | clearDone => exact ⟨false, false, false, false, false, 0, rfl⟩
  | resync => exact ⟨false, true, false, false, false, 0, rfl⟩
  | keySample data2 => exact ⟨true, false, false, false, data2, 0, rfl⟩
  | stamp now => exact ⟨false, true, false, false, false, now, rfl⟩
  | bitShift data aux => exact ⟨false, true, data, aux, false, 0, rfl⟩
  | firstBit => exact ⟨false, true, false, false, false, 0, rfl⟩
  | release => exact ⟨false, true, false, false, false, 0, rfl⟩
  | txEnd => exact ⟨false, true, false, false, false, 0, rfl⟩
  | txSlot => exact ⟨false, true, false, false, false, 0, rfl⟩
  | holdCountdown => exact ⟨false, true, false, false, false, 0, rfl⟩
  | complete => exact ⟨false, true, false, false, false, 0, rfl⟩
  | beepUpdate => exact ⟨false, true, false, false, false, 0, rfl⟩
  | interpret => exact ⟨false, true, false, false, false, 0, rfl⟩
  | changeUpdate => exact ⟨false, true, false, false, false, 0, rfl⟩
  | keyClassify => exact ⟨false, true, false, false, false, 0, rfl⟩
  | saveClk clk => exact ⟨false, clk, false, false, false, 0, rfl⟩
  | _ => exact absurd h (by unfold Instr.isEvent; exact Bool.noConfusion)

end Sys2Proof
end

