-- ==== Sys2Proof/Laws/Tick.lean ====
section
/-! SUPPORT. Laws/Tick.lean: what the conditional steps of TICK leave alone (one lemma per field), what
each of them can do, and the four shapes of a TICK. -/

namespace Sys2Proof.Machine

/-! ## `Regs.firstBit` -/

@[simp] theorem Regs.firstBit_pos (r : Regs) : (r.firstBit).pos = r.pos := by unfold Regs.firstBit; split <;> rfl
@[simp] theorem Regs.firstBit_sync (r : Regs) : (r.firstBit).sync = r.sync := by unfold Regs.firstBit; split <;> rfl
@[simp] theorem Regs.firstBit_stAcc (r : Regs) : (r.firstBit).stAcc = r.stAcc := by unfold Regs.firstBit; split <;> rfl
@[simp] theorem Regs.firstBit_auxAcc (r : Regs) : (r.firstBit).auxAcc = r.auxAcc := by unfold Regs.firstBit; split <;> rfl
@[simp] theorem Regs.firstBit_keyAcc (r : Regs) : (r.firstBit).keyAcc = r.keyAcc := by unfold Regs.firstBit; split <;> rfl
@[simp] theorem Regs.firstBit_stAvail (r : Regs) : (r.firstBit).stAvail = r.stAvail := by unfold Regs.firstBit; split <;> rfl
@[simp] theorem Regs.firstBit_auxAvail (r : Regs) : (r.firstBit).auxAvail = r.auxAvail := by unfold Regs.firstBit; split <;> rfl
@[simp] theorem Regs.firstBit_keyAvail (r : Regs) : (r.firstBit).keyAvail = r.keyAvail := by unfold Regs.firstBit; split <;> rfl
@[simp] theorem Regs.firstBit_stPrev (r : Regs) : (r.firstBit).stPrev = r.stPrev := by unfold Regs.firstBit; split <;> rfl
@[simp] theorem Regs.firstBit_keyPrev (r : Regs) : (r.firstBit).keyPrev = r.keyPrev := by unfold Regs.firstBit; split <;> rfl
@[simp] theorem Regs.firstBit_frameDone (r : Regs) : (r.firstBit).frameDone = r.frameDone := by unfold Regs.firstBit; split <;> rfl
@[simp] theorem Regs.firstBit_edgeMem (r : Regs) : (r.firstBit).edgeMem = r.edgeMem := by unfold Regs.firstBit; split <;> rfl
@[simp] theorem Regs.firstBit_idleT (r : Regs) : (r.firstBit).idleT = r.idleT := by unfold Regs.firstBit; split <;> rfl
@[simp] theorem Regs.firstBit_txCode (r : Regs) : (r.firstBit).txCode = r.txCode := by unfold Regs.firstBit; split <;> rfl
@[simp] theorem Regs.firstBit_txHold (r : Regs) : (r.firstBit).txHold = r.txHold := by unfold Regs.firstBit; split <;> rfl
@[simp] theorem Regs.firstBit_driveLow (r : Regs) : (r.firstBit).driveLow = r.driveLow := by unfold Regs.firstBit; split <;> rfl
@[simp] theorem Regs.firstBit_beepCnt (r : Regs) : (r.firstBit).beepCnt = r.beepCnt := by unfold Regs.firstBit; split <;> rfl
@[simp] theorem Regs.firstBit_pressed (r : Regs) : (r.firstBit).pressed = r.pressed := by unfold Regs.firstBit; split <;> rfl
@[simp] theorem Regs.firstBit_released (r : Regs) : (r.firstBit).released = r.released := by unfold Regs.firstBit; split <;> rfl
@[simp] theorem Regs.firstBit_pressCnt (r : Regs) : (r.firstBit).pressCnt = r.pressCnt := by unfold Regs.firstBit; split <;> rfl
@[simp] theorem Regs.firstBit_changed (r : Regs) : (r.firstBit).changed = r.changed := by unfold Regs.firstBit; split <;> rfl

theorem Regs.firstBit_of_pending (r : Regs) (h : r.txCode ≠ 0) :
    r.firstBit = { r with txActive := true, txCur := 0, quietCnt := 0 } := by
  simp [Regs.firstBit, (pending_iff r).2 h]

theorem Regs.firstBit_of_idle (r : Regs) (h : r.txCode = 0) :
    r.firstBit = { r with quietCnt := satInc r.quietCnt } := by
  simp [Regs.firstBit, pending, h]

/-! ## `Regs.txSlot` -/

@[simp] theorem Regs.txSlot_pos (r : Regs) : (r.txSlot).pos = r.pos := by unfold Regs.txSlot; split <;> rfl
@[simp] theorem Regs.txSlot_sync (r : Regs) : (r.txSlot).sync = r.sync := by unfold Regs.txSlot; split <;> rfl
@[simp] theorem Regs.txSlot_stAcc (r : Regs) : (r.txSlot).stAcc = r.stAcc := by unfold Regs.txSlot; split <;> rfl
@[simp] theorem Regs.txSlot_auxAcc (r : Regs) : (r.txSlot).auxAcc = r.auxAcc := by unfold Regs.txSlot; split <;> rfl
@[simp] theorem Regs.txSlot_keyAcc (r : Regs) : (r.txSlot).keyAcc = r.keyAcc := by unfold Regs.txSlot; split <;> rfl
@[simp] theorem Regs.txSlot_stAvail (r : Regs) : (r.txSlot).stAvail = r.stAvail := by unfold Regs.txSlot; split <;> rfl
@[simp] theorem Regs.txSlot_auxAvail (r : Regs) : (r.txSlot).auxAvail = r.auxAvail := by unfold Regs.txSlot; split <;> rfl
@[simp] theorem Regs.txSlot_keyAvail (r : Regs) : (r.txSlot).keyAvail = r.keyAvail := by unfold Regs.txSlot; split <;> rfl
@[simp] theorem Regs.txSlot_stPrev (r : Regs) : (r.txSlot).stPrev = r.stPrev := by unfold Regs.txSlot; split <;> rfl
@[simp] theorem Regs.txSlot_keyPrev (r : Regs) : (r.txSlot).keyPrev = r.keyPrev := by unfold Regs.txSlot; split <;> rfl
@[simp] theorem Regs.txSlot_frameDone (r : Regs) : (r.txSlot).frameDone = r.frameDone := by unfold Regs.txSlot; split <;> rfl
@[simp] theorem Regs.txSlot_edgeMem (r : Regs) : (r.txSlot).edgeMem = r.edgeMem := by unfold Regs.txSlot; split <;> rfl
@[simp] theorem Regs.txSlot_idleT (r : Regs) : (r.txSlot).idleT = r.idleT := by unfold Regs.txSlot; split <;> rfl
@[simp] theorem Regs.txSlot_txActive (r : Regs) : (r.txSlot).txActive = r.txActive := by unfold Regs.txSlot; split <;> rfl
@[simp] theorem Regs.txSlot_quietCnt (r : Regs) : (r.txSlot).quietCnt = r.quietCnt := by unfold Regs.txSlot; split <;> rfl
@[simp] theorem Regs.txSlot_beepCnt (r : Regs) : (r.txSlot).beepCnt = r.beepCnt := by unfold Regs.txSlot; split <;> rfl
@[simp] theorem Regs.txSlot_pressed (r : Regs) : (r.txSlot).pressed = r.pressed := by unfold Regs.txSlot; split <;> rfl
@[simp] theorem Regs.txSlot_released (r : Regs) : (r.txSlot).released = r.released := by unfold Regs.txSlot; split <;> rfl
@[simp] theorem Regs.txSlot_pressCnt (r : Regs) : (r.txSlot).pressCnt = r.pressCnt := by unfold Regs.txSlot; split <;> rfl
@[simp] theorem Regs.txSlot_changed (r : Regs) : (r.txSlot).changed = r.changed := by unfold Regs.txSlot; split <;> rfl

@[simp] theorem Regs.txSlot_driveLow (r : Regs) : (r.txSlot).driveLow =
    (r.txCode.getLsbD (slotPlace r.txCur) || r.driveLow) := by
  unfold Regs.txSlot
  split <;> cases h : r.txCode.getLsbD (slotPlace r.txCur) <;> simp [h]

@[simp] theorem Regs.txSlot_txCur (r : Regs) : (r.txSlot).txCur = r.txCur + 1 := by
  unfold Regs.txSlot; split <;> rfl

theorem txCur_succ_eq_seven (c : BitVec 3) : (c + 1).toNat = 7 ↔ c.toNat = 6 := by
  revert c; decide

@[simp] theorem Regs.txSlot_txHold (r : Regs) :
    (r.txSlot).txHold = if r.txCur.toNat = 6 then r.txHold - 1 else r.txHold := by
  unfold Regs.txSlot
  simp only [Regs.driveSlot_txCur, Config.keyBits, txCur_succ_eq_seven]
  split <;> rfl

theorem txHold_pred_eq_zero (h : BitVec 8) : h - 1 = 0 ↔ h = 1 := by
  constructor
  · intro e; have := congrArg (· + 1#8) e; simpa using this
  · rintro rfl; rfl

@[simp] theorem Regs.txSlot_txCode (r : Regs) :
    (r.txSlot).txCode = if r.txCur.toNat = 6 ∧ r.txHold = 1 then 0 else r.txCode := by
  unfold Regs.txSlot
  simp only [Regs.driveSlot_txCur, Config.keyBits, txCur_succ_eq_seven]
  by_cases h : r.txCur.toNat = 6
  · rw [if_pos h, Regs.holdCountdown_txCode]
    simp only [Regs.driveSlot_txHold, Regs.driveSlot_txCode, txHold_pred_eq_zero, h, true_and]
  · simp [h]

/-! ## `Regs.complete` -/

@[simp] theorem Regs.complete_pos (p : Params) (r : Regs) : (r.complete p).pos = 0 := by rfl
@[simp] theorem Regs.complete_sync (p : Params) (r : Regs) : (r.complete p).sync = false := by rfl
@[simp] theorem Regs.complete_stAcc (p : Params) (r : Regs) : (r.complete p).stAcc = r.stAcc := by rfl
@[simp] theorem Regs.complete_auxAcc (p : Params) (r : Regs) : (r.complete p).auxAcc = r.auxAcc := by rfl
@[simp] theorem Regs.complete_keyAcc (p : Params) (r : Regs) : (r.complete p).keyAcc = r.keyAcc := by rfl
@[simp] theorem Regs.complete_stAvail (p : Params) (r : Regs) : (r.complete p).stAvail = r.stAcc := by rfl
@[simp] theorem Regs.complete_auxAvail (p : Params) (r : Regs) : (r.complete p).auxAvail = r.auxAcc := by rfl
@[simp] theorem Regs.complete_keyAvail (p : Params) (r : Regs) : (r.complete p).keyAvail = r.keyAcc := by rfl
@[simp] theorem Regs.complete_stPrev (p : Params) (r : Regs) : (r.complete p).stPrev = r.stAvail := by rfl
@[simp] theorem Regs.complete_keyPrev (p : Params) (r : Regs) : (r.complete p).keyPrev = r.keyAvail := by rfl
@[simp] theorem Regs.complete_frameDone (p : Params) (r : Regs) : (r.complete p).frameDone = true := by rfl
@[simp] theorem Regs.complete_edgeMem (p : Params) (r : Regs) : (r.complete p).edgeMem = r.edgeMem := by rfl
@[simp] theorem Regs.complete_idleT (p : Params) (r : Regs) : (r.complete p).idleT = r.idleT := by rfl
@[simp] theorem Regs.complete_txCode (p : Params) (r : Regs) : (r.complete p).txCode = r.txCode := by rfl
@[simp] theorem Regs.complete_txHold (p : Params) (r : Regs) : (r.complete p).txHold = r.txHold := by rfl
@[simp] theorem Regs.complete_txCur (p : Params) (r : Regs) : (r.complete p).txCur = r.txCur := by rfl
@[simp] theorem Regs.complete_txActive (p : Params) (r : Regs) : (r.complete p).txActive = r.txActive := by rfl
@[simp] theorem Regs.complete_quietCnt (p : Params) (r : Regs) : (r.complete p).quietCnt = r.quietCnt := by rfl
@[simp] theorem Regs.complete_driveLow (p : Params) (r : Regs) : (r.complete p).driveLow = r.driveLow := by rfl
@[simp] theorem Regs.complete_pressed (p : Params) (r : Regs) : (r.complete p).pressed = r.pressed := by rfl
@[simp] theorem Regs.complete_released (p : Params) (r : Regs) : (r.complete p).released = r.released := by rfl
@[simp] theorem Regs.complete_pressCnt (p : Params) (r : Regs) : (r.complete p).pressCnt = r.pressCnt := by rfl
@[simp] theorem Regs.complete_changed (p : Params) (r : Regs) : (r.complete p).changed = r.changed := by rfl

@[simp] theorem Regs.complete_beepCnt (p : Params) (r : Regs) : (r.complete p).beepCnt =
    if r.stAcc &&& p.statusMask .beep = 0 then 0 else satInc r.beepCnt := by
  show (if masked r.stAcc (p.statusMask .beep) = true then satInc r.beepCnt else 0) = _
  by_cases h : r.stAcc &&& p.statusMask .beep = 0
  · rw [if_pos h, if_neg (by rw [masked_iff]; simp [h])]
  · rw [if_neg h, if_pos ((masked_iff _ _).2 h)]

/-! ## `Regs.keyClassify` -/

@[simp] theorem Regs.keyClassify_pos (r : Regs) : (r.keyClassify).pos = r.pos := by unfold Regs.keyClassify; split <;> split <;> (try split) <;> rfl
@[simp] theorem Regs.keyClassify_sync (r : Regs) : (r.keyClassify).sync = r.sync := by unfold Regs.keyClassify; split <;> split <;> (try split) <;> rfl
@[simp] theorem Regs.keyClassify_stAcc (r : Regs) : (r.keyClassify).stAcc = r.stAcc := by unfold Regs.keyClassify; split <;> split <;> (try split) <;> rfl
@[simp] theorem Regs.keyClassify_auxAcc (r : Regs) : (r.keyClassify).auxAcc = r.auxAcc := by unfold Regs.keyClassify; split <;> split <;> (try split) <;> rfl
@[simp] theorem Regs.keyClassify_keyAcc (r : Regs) : (r.keyClassify).keyAcc = r.keyAcc := by unfold Regs.keyClassify; split <;> split <;> (try split) <;> rfl
@[simp] theorem Regs.keyClassify_stAvail (r : Regs) : (r.keyClassify).stAvail = r.stAvail := by unfold Regs.keyClassify; split <;> split <;> (try split) <;> rfl
@[simp] theorem Regs.keyClassify_auxAvail (r : Regs) : (r.keyClassify).auxAvail = r.auxAvail := by unfold Regs.keyClassify; split <;> split <;> (try split) <;> rfl
@[simp] theorem Regs.keyClassify_keyAvail (r : Regs) : (r.keyClassify).keyAvail = r.keyAvail := by unfold Regs.keyClassify; split <;> split <;> (try split) <;> rfl
@[simp] theorem Regs.keyClassify_stPrev (r : Regs) : (r.keyClassify).stPrev = r.stPrev := by unfold Regs.keyClassify; split <;> split <;> (try split) <;> rfl
@[simp] theorem Regs.keyClassify_keyPrev (r : Regs) : (r.keyClassify).keyPrev = r.keyPrev := by unfold Regs.keyClassify; split <;> split <;> (try split) <;> rfl
@[simp] theorem Regs.keyClassify_frameDone (r : Regs) : (r.keyClassify).frameDone = r.frameDone := by unfold Regs.keyClassify; split <;> split <;> (try split) <;> rfl
@[simp] theorem Regs.keyClassify_edgeMem (r : Regs) : (r.keyClassify).edgeMem = r.edgeMem := by unfold Regs.keyClassify; split <;> split <;> (try split) <;> rfl
@[simp] theorem Regs.keyClassify_idleT (r : Regs) : (r.keyClassify).idleT = r.idleT := by unfold Regs.keyClassify; split <;> split <;> (try split) <;> rfl
@[simp] theorem Regs.keyClassify_txCode (r : Regs) : (r.keyClassify).txCode = r.txCode := by unfold Regs.keyClassify; split <;> split <;> (try split) <;> rfl
@[simp] theorem Regs.keyClassify_txHold (r : Regs) : (r.keyClassify).txHold = r.txHold := by unfold Regs.keyClassify; split <;> split <;> (try split) <;> rfl
@[simp] theorem Regs.keyClassify_txCur (r : Regs) : (r.keyClassify).txCur = r.txCur := by unfold Regs.keyClassify; split <;> split <;> (try split) <;> rfl
@[simp] theorem Regs.keyClassify_txActive (r : Regs) : (r.keyClassify).txActive = r.txActive := by unfold Regs.keyClassify; split <;> split <;> (try split) <;> rfl
@[simp] theorem Regs.keyClassify_quietCnt (r : Regs) : (r.keyClassify).quietCnt = r.quietCnt := by unfold Regs.keyClassify; split <;> split <;> (try split) <;> rfl
@[simp] theorem Regs.keyClassify_driveLow (r : Regs) : (r.keyClassify).driveLow = r.driveLow := by unfold Regs.keyClassify; split <;> split <;> (try split) <;> rfl
@[simp] theorem Regs.keyClassify_beepCnt (r : Regs) : (r.keyClassify).beepCnt = r.beepCnt := by unfold Regs.keyClassify; split <;> split <;> (try split) <;> rfl
@[simp] theorem Regs.keyClassify_changed (r : Regs) : (r.keyClassify).changed = r.changed := by unfold Regs.keyClassify; split <;> split <;> (try split) <;> rfl

@[simp] theorem Regs.keyClassify_pressed (r : Regs) : (r.keyClassify).pressed = r.keyAvail := by
  unfold Regs.keyClassify; split <;> split <;> (try split) <;> simp_all

@[simp] theorem Regs.keyClassify_released (r : Regs) : (r.keyClassify).released =
    if r.keyPrev ≠ 0 ∧ r.keyAvail ≠ r.keyPrev then r.keyPrev else 0 := by
  unfold Regs.keyClassify
  split <;> split <;> (try split) <;> simp_all

@[simp] theorem Regs.keyClassify_pressCnt (r : Regs) : (r.keyClassify).pressCnt =
    if r.keyAvail = 0 then 0 else if r.keyPrev ≠ 0 ∧ r.keyAvail = r.keyPrev then satInc r.pressCnt
    else 1 := by
  unfold Regs.keyClassify
  split <;> split <;> (try split) <;> simp_all

/-! ## `Regs.interpret` -/

@[simp] theorem Regs.interpret_pos (r : Regs) : (r.interpret).pos = r.pos := by simp [Regs.interpret]
@[simp] theorem Regs.interpret_sync (r : Regs) : (r.interpret).sync = r.sync := by simp [Regs.interpret]
@[simp] theorem Regs.interpret_stAcc (r : Regs) : (r.interpret).stAcc = r.stAcc := by simp [Regs.interpret]
@[simp] theorem Regs.interpret_auxAcc (r : Regs) : (r.interpret).auxAcc = r.auxAcc := by simp [Regs.interpret]
@[simp] theorem Regs.interpret_keyAcc (r : Regs) : (r.interpret).keyAcc = r.keyAcc := by simp [Regs.interpret]
@[simp] theorem Regs.interpret_stAvail (r : Regs) : (r.interpret).stAvail = r.stAvail := by simp [Regs.interpret]
@[simp] theorem Regs.interpret_auxAvail (r : Regs) : (r.interpret).auxAvail = r.auxAvail := by simp [Regs.interpret]
@[simp] theorem Regs.interpret_keyAvail (r : Regs) : (r.interpret).keyAvail = r.keyAvail := by simp [Regs.interpret]
@[simp] theorem Regs.interpret_stPrev (r : Regs) : (r.interpret).stPrev = r.stPrev := by simp [Regs.interpret]
@[simp] theorem Regs.interpret_keyPrev (r : Regs) : (r.interpret).keyPrev = r.keyPrev := by simp [Regs.interpret]
@[simp] theorem Regs.interpret_frameDone (r : Regs) : (r.interpret).frameDone = r.frameDone := by simp [Regs.interpret]
@[simp] theorem Regs.interpret_edgeMem (r : Regs) : (r.interpret).edgeMem = r.edgeMem := by simp [Regs.interpret]
@[simp] theorem Regs.interpret_idleT (r : Regs) : (r.interpret).idleT = r.idleT := by simp [Regs.interpret]
@[simp] theorem Regs.interpret_txCode (r : Regs) : (r.interpret).txCode = r.txCode := by simp [Regs.interpret]
@[simp] theorem Regs.interpret_txHold (r : Regs) : (r.interpret).txHold = r.txHold := by simp [Regs.interpret]
@[simp] theorem Regs.interpret_txCur (r : Regs) : (r.interpret).txCur = r.txCur := by simp [Regs.interpret]
@[simp] theorem Regs.interpret_txActive (r : Regs) : (r.interpret).txActive = r.txActive := by simp [Regs.interpret]
@[simp] theorem Regs.interpret_quietCnt (r : Regs) : (r.interpret).quietCnt = r.quietCnt := by simp [Regs.interpret]
@[simp] theorem Regs.interpret_driveLow (r : Regs) : (r.interpret).driveLow = r.driveLow := by simp [Regs.interpret]
@[simp] theorem Regs.interpret_beepCnt (r : Regs) : (r.interpret).beepCnt = r.beepCnt := by simp [Regs.interpret]

@[simp] theorem Regs.interpret_changed (r : Regs) :
    (r.interpret).changed = decide (r.stAvail ≠ r.stPrev) := by simp [Regs.interpret]

@[simp] theorem Regs.interpret_pressed (r : Regs) : (r.interpret).pressed = r.keyAvail := by
  simp [Regs.interpret]

@[simp] theorem Regs.interpret_released (r : Regs) : (r.interpret).released =
    if r.keyPrev ≠ 0 ∧ r.keyAvail ≠ r.keyPrev then r.keyPrev else 0 := by
  unfold Regs.interpret; rw [Regs.keyClassify_released]; rfl

@[simp] theorem Regs.interpret_pressCnt (r : Regs) : (r.interpret).pressCnt =
    if r.keyAvail = 0 then 0 else if r.keyPrev ≠ 0 ∧ r.keyAvail = r.keyPrev then satInc r.pressCnt
    else 1 := by
  unfold Regs.interpret; rw [Regs.keyClassify_pressCnt]; rfl

/-! ## `Regs.gapTest` -/

@[simp] theorem Regs.gapTest_stAvail (x : LineSample) (r : Regs) : (r.gapTest x).stAvail = r.stAvail := by unfold Regs.gapTest; split <;> rfl
@[simp] theorem Regs.gapTest_auxAvail (x : LineSample) (r : Regs) : (r.gapTest x).auxAvail = r.auxAvail := by unfold Regs.gapTest; split <;> rfl
@[simp] theorem Regs.gapTest_keyAvail (x : LineSample) (r : Regs) : (r.gapTest x).keyAvail = r.keyAvail := by unfold Regs.gapTest; split <;> rfl
@[simp] theorem Regs.gapTest_stPrev (x : LineSample) (r : Regs) : (r.gapTest x).stPrev = r.stPrev := by unfold Regs.gapTest; split <;> rfl
@[simp] theorem Regs.gapTest_keyPrev (x : LineSample) (r : Regs) : (r.gapTest x).keyPrev = r.keyPrev := by unfold Regs.gapTest; split <;> rfl
@[simp] theorem Regs.gapTest_frameDone (x : LineSample) (r : Regs) : (r.gapTest x).frameDone = r.frameDone := by unfold Regs.gapTest; split <;> rfl
@[simp] theorem Regs.gapTest_edgeMem (x : LineSample) (r : Regs) : (r.gapTest x).edgeMem = r.edgeMem := by unfold Regs.gapTest; split <;> rfl
@[simp] theorem Regs.gapTest_idleT (x : LineSample) (r : Regs) : (r.gapTest x).idleT = r.idleT := by unfold Regs.gapTest; split <;> rfl
@[simp] theorem Regs.gapTest_txCode (x : LineSample) (r : Regs) : (r.gapTest x).txCode = r.txCode := by unfold Regs.gapTest; split <;> rfl
@[simp] theorem Regs.gapTest_txHold (x : LineSample) (r : Regs) : (r.gapTest x).txHold = r.txHold := by unfold Regs.gapTest; split <;> rfl
@[simp] theorem Regs.gapTest_txCur (x : LineSample) (r : Regs) : (r.gapTest x).txCur = r.txCur := by unfold Regs.gapTest; split <;> rfl
@[simp] theorem Regs.gapTest_txActive (x : LineSample) (r : Regs) : (r.gapTest x).txActive = r.txActive := by unfold Regs.gapTest; split <;> rfl
@[simp] theorem Regs.gapTest_quietCnt (x : LineSample) (r : Regs) : (r.gapTest x).quietCnt = r.quietCnt := by unfold Regs.gapTest; split <;> rfl
@[simp] theorem Regs.gapTest_driveLow (x : LineSample) (r : Regs) : (r.gapTest x).driveLow = r.driveLow := by unfold Regs.gapTest; split <;> rfl
@[simp] theorem Regs.gapTest_beepCnt (x : LineSample) (r : Regs) : (r.gapTest x).beepCnt = r.beepCnt := by unfold Regs.gapTest; split <;> rfl
@[simp] theorem Regs.gapTest_pressed (x : LineSample) (r : Regs) : (r.gapTest x).pressed = r.pressed := by unfold Regs.gapTest; split <;> rfl
@[simp] theorem Regs.gapTest_released (x : LineSample) (r : Regs) : (r.gapTest x).released = r.released := by unfold Regs.gapTest; split <;> rfl
@[simp] theorem Regs.gapTest_pressCnt (x : LineSample) (r : Regs) : (r.gapTest x).pressCnt = r.pressCnt := by unfold Regs.gapTest; split <;> rfl
@[simp] theorem Regs.gapTest_changed (x : LineSample) (r : Regs) : (r.gapTest x).changed = r.changed := by unfold Regs.gapTest; split <;> rfl

theorem Regs.gapTest_of_gap {x : LineSample} {r : Regs} (hc : x.clk = true) (h : r.gapAt x.now) :
    r.gapTest x = r.resync := by
  simp [Regs.gapTest, hc, (inGap_iff r x.now).2 h]

theorem Regs.gapTest_of_no_gap {x : LineSample} {r : Regs} (h : x.clk = false ∨ ¬ r.gapAt x.now) :
    r.gapTest x = r := by
  unfold Regs.gapTest
  rw [if_neg]
  rintro h'
  simp only [Bool.and_eq_true, inGap_iff] at h'
  rcases h with h | h
  · simp [h] at h'
  · exact h h'.2

/-! ## The parts of the rising edge -/

theorem Regs.endPart_of_early {r : Regs} (h : r.pos.toNat < 8) : r.endPart = r := by
  unfold Regs.endPart
  rw [if_neg]; rw [atTxEnd_iff]; omega

theorem Regs.endPart_of_late {r : Regs} (h : 8 ≤ r.pos.toNat) : r.endPart = r.txEnd := by
  unfold Regs.endPart
  rw [if_pos]; rwa [atTxEnd_iff]

theorem Regs.slotPart_of_slot {r : Regs} (h : r.txActive = true ∧ r.txCur.toNat < 7) :
    r.slotPart = r.txSlot := by
  unfold Regs.slotPart
  rw [if_pos]; rwa [hasSlot_iff]

theorem Regs.slotPart_of_none {r : Regs} (h : ¬ (r.txActive = true ∧ r.txCur.toNat < 7)) :
    r.slotPart = r := by
  unfold Regs.slotPart
  rw [if_neg]; rwa [hasSlot_iff]

theorem Regs.completePart_of_end {p : Params} {r : Regs} (h : r.pos.toNat = 16) :
    r.completePart p = (r.complete p).interpret := by
  unfold Regs.completePart
  rw [if_pos]; rwa [atFrameEnd_iff]

theorem Regs.completePart_of_not_end {p : Params} {r : Regs} (h : r.pos.toNat ≠ 16) :
    r.completePart p = r := by
  unfold Regs.completePart
  rw [if_neg]; rwa [atFrameEnd_iff]

theorem Regs.shiftPart_of_first {x : LineSample} {r : Regs} (h : r.pos = 0) :
    r.shiftPart x = (r.bitShift x.data x.aux).firstBit := by
  simp [Regs.shiftPart, h]

theorem Regs.shiftPart_of_later {x : LineSample} {r : Regs} (h : r.pos ≠ 0) :
    r.shiftPart x = r.bitShift x.data x.aux := by
  unfold Regs.shiftPart; rw [if_neg h]

theorem pos_succ {p : BitVec 5} (h : p.toNat ≤ 15) : (p + 1).toNat = p.toNat + 1 := by
  rw [BitVec.toNat_add]; simp; omega

theorem pos_succ_eq_sixteen (p : BitVec 5) : (p + 1).toNat = 16 ↔ p = 15 := by
  revert p; decide

theorem pos_eq_zero_iff (p : BitVec 5) : p = 0 ↔ p.toNat = 0 := by
  revert p; decide

/-- A synchronized rising edge, by the position it is taken with: the first bit, slots 1 to 6, slots 7 to
14, and the last. -/
theorem Regs.riseBranch_cases (p : Params) (x : LineSample) (r : Regs) (hs : r.sync = true)
    (hp : r.pos.toNat ≤ 15) :
    (r.pos = 0 ∧ r.riseBranch p x =
      (((r.stamp x.now).bitShift x.data x.aux).firstBit).release.slotPart) ∨
    (1 ≤ r.pos.toNat ∧ r.pos.toNat ≤ 6 ∧ r.riseBranch p x =
      ((r.stamp x.now).bitShift x.data x.aux).release.slotPart) ∨
    (7 ≤ r.pos.toNat ∧ r.pos.toNat ≤ 14 ∧ r.riseBranch p x =
      ((r.stamp x.now).bitShift x.data x.aux).release.txEnd) ∨
    (r.pos = 15 ∧ r.riseBranch p x =
      ((((r.stamp x.now).bitShift x.data x.aux).release.txEnd).complete p).interpret) := by
  have hsucc := pos_succ hp
  have h16 := pos_succ_eq_sixteen r.pos
  have h0 := pos_eq_zero_iff r.pos
  unfold Regs.riseBranch
  rw [if_pos hs]
  have hslot : ∀ q : Regs, q.slotPart.pos = q.pos := by
    intro q
    unfold Regs.slotPart
    split <;> simp
  by_cases c0 : r.pos = 0
  · refine .inl ⟨c0, ?_⟩
    rw [Regs.shiftPart_of_first (by simpa using c0), Regs.endPart_of_early (by simp [c0]),
      Regs.completePart_of_not_end (by rw [hslot]; simp [c0])]
  · have c0' : r.pos.toNat ≠ 0 := fun h => c0 (h0.2 h)
    rw [Regs.shiftPart_of_later (by simpa using c0)]
    by_cases c7 : r.pos.toNat ≤ 6
    · refine .inr (.inl ⟨by omega, c7, ?_⟩)
      rw [Regs.endPart_of_early (by simp only [Regs.release_pos, Regs.bitShift_pos, Regs.stamp_pos]; omega),
        Regs.completePart_of_not_end (by
          rw [hslot]; simp only [Regs.release_pos, Regs.bitShift_pos, Regs.stamp_pos]; omega)]
    · rw [Regs.endPart_of_late (by simp only [Regs.release_pos, Regs.bitShift_pos, Regs.stamp_pos]; omega),
        Regs.slotPart_of_none (by simp)]
      by_cases c15 : r.pos = 15
      · refine .inr (.inr (.inr ⟨c15, ?_⟩))
        rw [Regs.completePart_of_end (by simp [c15])]
      · refine .inr (.inr (.inl ⟨by omega, ?_, ?_⟩))
        · have : (r.pos + 1).toNat ≠ 16 := fun h => c15 (h16.1 h)
          omega
        · rw [Regs.completePart_of_not_end]
          simpa only [Regs.txEnd_pos, Regs.release_pos, Regs.bitShift_pos, Regs.stamp_pos] using
            fun h => c15 (h16.1 h)

theorem Regs.riseBranch_unsync (p : Params) (x : LineSample) (r : Regs) (h : r.sync = false) :
    r.riseBranch p x = (r.stamp x.now).release := by
  simp [Regs.riseBranch, h]

/-! ## The four shapes of a TICK -/

/-- What a TICK is, by `EDGE_MEM` and `clk` (R105 to R109). -/
theorem Regs.tick_cases (p : Params) (x : LineSample) (r : Regs) :
    (r.edgeMem = false ∧ x.clk = false ∧ r.tick p x = r.clearDone.saveClk false) ∨
    (r.edgeMem = true ∧ x.clk = false ∧ r.tick p x = (r.clearDone.fallBranch x).saveClk false) ∨
    (r.edgeMem = true ∧ x.clk = true ∧ r.tick p x = (r.clearDone.gapTest x).saveClk true) ∨
    (r.edgeMem = false ∧ x.clk = true ∧
      r.tick p x = ((r.clearDone.gapTest x).riseBranch p x).saveClk true) := by
  unfold Regs.tick Regs.edgeBranch isFall isRise
  cases he : r.edgeMem <;> cases hc : x.clk <;>
    simp [he, Regs.gapTest_of_no_gap, hc]

/-- KEYSAMPLE happens in the window only. -/
theorem Regs.fallBranch_cases (x : LineSample) (r : Regs) :
    (1 ≤ r.pos.toNat ∧ r.pos.toNat ≤ 7 ∧ r.fallBranch x = r.keySample x.data2) ∨
    ((r.pos.toNat = 0 ∨ 8 ≤ r.pos.toNat) ∧ r.fallBranch x = r) := by
  unfold Regs.fallBranch
  by_cases h : inKeyWindow r = true
  · rw [if_pos h]
    rw [inKeyWindow_iff] at h
    exact .inl ⟨h.1, h.2, rfl⟩
  · rw [if_neg h]
    rw [inKeyWindow_iff] at h
    exact .inr ⟨by omega, rfl⟩

end Sys2Proof.Machine
end

