-- ==== Sys2Proof/Laws/Step.lean ====
section
/-! SUPPORT. Laws/Step.lean: what one operation and one step can do to the machine, said once. -/

namespace Sys2Proof.Machine

/-- SEND_KEY writes the request or nothing. -/
theorem sendKey_cases (p : Params) (sym : Symbol) (n : Nat) (s : State) :
    (accepts p sym n s.regs = true ∧
      s.sendKey p sym n = (s.mapRegs (Regs.request p sym n)).answer .accept) ∨
    (accepts p sym n s.regs = false ∧ s.sendKey p sym n = s.answer .reject) := by
  unfold State.sendKey
  cases h : accepts p sym n s.regs
  · exact .inr ⟨rfl, by simp⟩
  · exact .inl ⟨rfl, by simp⟩

/-- A poll of WAIT_FRAME is a TICK with some sample. -/
theorem poll_regs (s : State) : s.poll.regs = s.regs.tick Config.params (nextSample s).1 := by
  simp [State.poll]

/-- What an event can do to the registers: nothing, a TICK, a new request, or RESET. -/
theorem exec_event_cases {i : Instr} {s t : State} (hi : i.isEvent = true) (h : exec i s = .next t) :
    t.regs = s.regs ∨ (∃ x, t.regs = s.regs.tick Config.params x) ∨
    (∃ sym n, n < 2 ^ 8 ∧ accepts Config.params sym n s.regs = true ∧
      t.regs = s.regs.request Config.params sym n) ∨
    (i = .reset ∧ t.regs = Regs.reset) := by
  cases i with
  | tickLow _ _ _ _ => cases h; exact .inr (.inl ⟨_, rfl⟩)
  | tickRise _ _ _ _ => cases h; exact .inr (.inl ⟨_, rfl⟩)
  | tickFall _ _ _ _ => cases h; exact .inr (.inl ⟨_, rfl⟩)
  | tickHigh _ _ _ _ => cases h; exact .inr (.inl ⟨_, rfl⟩)
  | sendKey sym n =>
    change execSendKey sym n s = .next t at h
    unfold execSendKey at h
    by_cases hn : n < 2 ^ 8
    · rw [if_pos hn] at h
      cases h
      rcases sendKey_cases Config.params sym n s with ⟨ha, hs⟩ | ⟨-, hs⟩
      · exact .inr (.inr (.inl ⟨sym, n, hn, ha, by rw [hs]; rfl⟩))
      · exact .inl (by rw [hs]; rfl)
    · rw [if_neg hn] at h; cases h
  | qZoneLight k =>
    change execQZoneLight k s = .next t at h
    unfold execQZoneLight answerStatus at h
    split at h
    · cases h; exact .inl rfl
    · cases h
  | qStatusLight k =>
    change execQStatusLight k s = .next t at h
    unfold execQStatusLight answerStatus at h
    split at h
    · cases h; exact .inl rfl
    · cases h
  | qBtn k =>
    change execQBtn k s = .next t at h
    unfold execQBtn answerAux at h
    split at h
    · cases h; exact .inl rfl
    · cases h
  | qZoneTripped k =>
    change execQZoneTripped k s = .next t at h
    unfold execQZoneTripped answerAux at h
    split at h
    · cases h; exact .inl rfl
    · cases h
  | waitFrame =>
    change execWaitFrame s = .next t at h
    unfold execWaitFrame at h
    cases h
    refine .inr (.inl ⟨(nextSample s).1, ?_⟩)
    split
    · exact poll_regs s
    · rw [again_regs]; exact poll_regs s
  | reset => cases h; exact .inr (.inr (.inr ⟨rfl, rfl⟩))
  | _ => first | (cases h; exact .inl rfl) | exact absurd hi (by simp [Instr.isEvent])

/-- The decoder answers events only. -/
theorem decode_isEvent {r : PortRecord} {i : Instr} (h : decode r = .ok i) : i.isEvent = true := by
  unfold decode at h
  split at h
  · unfold decodeTick at h
    split at h
    · cases h
    · split at h <;> cases h <;> rfl
  · unfold decodeCommand guardOperand at h
    split at h <;> (try split at h) <;> cases h <;> rfl
  · unfold decodeReset at h
    split at h <;> cases h
    rfl
  · cases h

/-- What a step can do, if it answers a next state: nothing when no event is issued, or the operation
decoded from the first event, run in the state that no longer holds it. -/
theorem step_cases {s t : State} (h : step s = .next t) :
    (s.script = [] ∧ t = s) ∨
    ∃ r rest i, s.script = r :: rest ∧ decode (readRecord s r) = .ok i ∧
      exec i { s with script := rest } = .next t := by
  unfold step at h
  cases hs : s.script with
  | nil => rw [fetch_nil hs] at h; cases h; exact .inl ⟨rfl, rfl⟩
  | cons r rest =>
    rw [fetch_cons hs] at h
    dsimp only at h
    split at h
    · exact .inr ⟨r, rest, _, rfl, ‹_›, h⟩
    · cases h

/-- What a step can do to the registers: nothing, a TICK, a new request, or RESET. -/
theorem step_regs_cases {s t : State} (h : step s = .next t) :
    t.regs = s.regs ∨ (∃ x, t.regs = s.regs.tick Config.params x) ∨
    (∃ sym n, n < 2 ^ 8 ∧ accepts Config.params sym n s.regs = true ∧
      t.regs = s.regs.request Config.params sym n) ∨
    (t.regs = Regs.reset ∧
      ∃ r rest, s.script = r :: rest ∧ decode (readRecord s r) = .ok .reset) := by
  rcases step_cases h with ⟨-, rfl⟩ | ⟨r, rest, i, hs, hd, he⟩
  · exact .inl rfl
  · rcases exec_event_cases (decode_isEvent hd) he with h1 | h1 | h1 | ⟨rfl, h1⟩
    · exact .inl h1
    · exact .inr (.inl h1)
    · exact .inr (.inr (.inl h1))
    · exact .inr (.inr (.inr ⟨h1, r, rest, hs, hd⟩))

end Sys2Proof.Machine
end

