-- ==== Sys2Proof/Laws/PerInstr.lean ====
section
/-! SUPPORT. Laws/PerInstr.lean: the family `TableWord`: the event word the encoder writes for an operation
is its row's in spec/opcode_table.json (`word &&& mask = match`). -/

namespace Sys2Proof.Laws.TableWord

/-- `mask` and `match` of an operation's row in spec/opcode_table.json (30_encoding.md R79). -/
def row : Instr → BitVec 7 × BitVec 7
  | .tick _ _ _ _ _ => (0x7C#7, 0x00#7)
  | .tickLow _ _ _ _ => (0x7F#7, 0x00#7)
  | .tickRise _ _ _ _ => (0x7F#7, 0x01#7)
  | .tickFall _ _ _ _ => (0x7F#7, 0x02#7)
  | .tickHigh _ _ _ _ => (0x7F#7, 0x03#7)
  | .clearDone => (0x7C#7, 0x00#7)
  | .resync => (0x7D#7, 0x01#7)
  | .keySample _ => (0x7F#7, 0x02#7)
  | .stamp _ => (0x7F#7, 0x01#7)
  | .bitShift _ _ => (0x7F#7, 0x01#7)
  | .firstBit => (0x7F#7, 0x01#7)
  | .release => (0x7F#7, 0x01#7)
  | .txEnd => (0x7F#7, 0x01#7)
  | .txSlot => (0x7F#7, 0x01#7)
  | .holdCountdown => (0x7F#7, 0x01#7)
  | .complete => (0x7F#7, 0x01#7)
  | .beepUpdate => (0x7F#7, 0x01#7)
  | .interpret => (0x7F#7, 0x01#7)
  | .changeUpdate => (0x7F#7, 0x01#7)
  | .keyClassify => (0x7F#7, 0x01#7)
  | .saveClk _ => (0x7C#7, 0x00#7)
  | .sendKey _ _ => (0x7F#7, 0x20#7)
  | .qReady => (0x7F#7, 0x21#7)
  | .qFrameDone => (0x7F#7, 0x22#7)
  | .qChanged => (0x7F#7, 0x23#7)
  | .qPressed => (0x7F#7, 0x24#7)
  | .qReleased => (0x7F#7, 0x25#7)
  | .qPressCnt => (0x7F#7, 0x26#7)
  | .qBeepCnt => (0x7F#7, 0x27#7)
  | .qZoneLight _ => (0x7F#7, 0x28#7)
  | .qStatusLight _ => (0x7F#7, 0x29#7)
  | .qBeep => (0x7F#7, 0x2A#7)
  | .qPgm => (0x7F#7, 0x2B#7)
  | .qBtn _ => (0x7F#7, 0x2C#7)
  | .qArmed => (0x7F#7, 0x2D#7)
  | .qArmedBypass => (0x7F#7, 0x2E#7)
  | .qTrouble => (0x7F#7, 0x2F#7)
  | .qFireLatched => (0x7F#7, 0x30#7)
  | .qZoneTripped _ => (0x7F#7, 0x31#7)
  | .qAnyTrippedArmed => (0x7F#7, 0x32#7)
  | .waitFrame => (0x7F#7, 0x33#7)
  | .reset => (0x7F#7, 0x40#7)

/-- The event word of the operation's record lies in its row. -/
def Statement (i : Instr) : Prop := (encode i).ev &&& (row i).1 = (row i).2

/-! The event word of a tick's record, whatever its operands. -/

theorem tick_word_00 (d a b : Level) (n : Timestamp) :
    (tickRecord false false d a b n).ev = 0x00#7 := by
  change (0#5 ++ BitVec.ofBool false ++ BitVec.ofBool false : BitVec 7) = 0x00#7
  decide

theorem tick_word_01 (d a b : Level) (n : Timestamp) :
    (tickRecord false true d a b n).ev = 0x01#7 := by
  change (0#5 ++ BitVec.ofBool false ++ BitVec.ofBool true : BitVec 7) = 0x01#7
  decide

theorem tick_word_10 (d a b : Level) (n : Timestamp) :
    (tickRecord true false d a b n).ev = 0x02#7 := by
  change (0#5 ++ BitVec.ofBool true ++ BitVec.ofBool false : BitVec 7) = 0x02#7
  decide

theorem tick_word_11 (d a b : Level) (n : Timestamp) :
    (tickRecord true true d a b n).ev = 0x03#7 := by
  change (0#5 ++ BitVec.ofBool true ++ BitVec.ofBool true : BitVec 7) = 0x03#7
  decide

/-- The event word of a command's record, whatever its operands. -/
theorem command_word (k : BitVec 5) (w : BitVec 40) : (commandRecord k w).ev = (0b01#2 ++ k : BitVec 7) := rfl

/-- An operation lies in its row if its event word does. -/
theorem of_word {i : Instr} {w m v : BitVec 7} (h : (encode i).ev = w) (hr : row i = (m, v))
    (hw : w &&& m = v) : Statement i := by unfold Statement; rw [h, hr]; exact hw

theorem tick (c : Level) (d : Level) (a : Level) (e : Level) (n : Timestamp) : Statement (.tick c d a e n) := by
  cases c
  · exact of_word (tick_word_00 _ _ _ _) rfl (by decide)
  · exact of_word (tick_word_01 _ _ _ _) rfl (by decide)
theorem tickLow (d : Level) (a : Level) (e : Level) (n : Timestamp) : Statement (.tickLow d a e n) := of_word (tick_word_00 _ _ _ _) rfl (by decide)
theorem tickRise (d : Level) (a : Level) (e : Level) (n : Timestamp) : Statement (.tickRise d a e n) := of_word (tick_word_01 _ _ _ _) rfl (by decide)
theorem tickFall (d : Level) (a : Level) (e : Level) (n : Timestamp) : Statement (.tickFall d a e n) := of_word (tick_word_10 _ _ _ _) rfl (by decide)
theorem tickHigh (d : Level) (a : Level) (e : Level) (n : Timestamp) : Statement (.tickHigh d a e n) := of_word (tick_word_11 _ _ _ _) rfl (by decide)
theorem clearDone : Statement .clearDone := of_word (tick_word_00 _ _ _ _) rfl (by decide)
theorem resync : Statement .resync := of_word (tick_word_01 _ _ _ _) rfl (by decide)
theorem keySample (e : Level) : Statement (.keySample e) := of_word (tick_word_10 _ _ _ _) rfl (by decide)
theorem stamp (n : Timestamp) : Statement (.stamp n) := of_word (tick_word_01 _ _ _ _) rfl (by decide)
theorem bitShift (d : Level) (a : Level) : Statement (.bitShift d a) := of_word (tick_word_01 _ _ _ _) rfl (by decide)
theorem firstBit : Statement .firstBit := of_word (tick_word_01 _ _ _ _) rfl (by decide)
theorem release : Statement .release := of_word (tick_word_01 _ _ _ _) rfl (by decide)
theorem txEnd : Statement .txEnd := of_word (tick_word_01 _ _ _ _) rfl (by decide)
theorem txSlot : Statement .txSlot := of_word (tick_word_01 _ _ _ _) rfl (by decide)
theorem holdCountdown : Statement .holdCountdown := of_word (tick_word_01 _ _ _ _) rfl (by decide)
theorem complete : Statement .complete := of_word (tick_word_01 _ _ _ _) rfl (by decide)
theorem beepUpdate : Statement .beepUpdate := of_word (tick_word_01 _ _ _ _) rfl (by decide)
theorem interpret : Statement .interpret := of_word (tick_word_01 _ _ _ _) rfl (by decide)
theorem changeUpdate : Statement .changeUpdate := of_word (tick_word_01 _ _ _ _) rfl (by decide)
theorem keyClassify : Statement .keyClassify := of_word (tick_word_01 _ _ _ _) rfl (by decide)
theorem saveClk (c : Level) : Statement (.saveClk c) := by
  cases c
  · exact of_word (tick_word_00 _ _ _ _) rfl (by decide)
  · exact of_word (tick_word_01 _ _ _ _) rfl (by decide)
theorem sendKey (y : Symbol) (n : Nat) : Statement (.sendKey y n) := of_word (command_word _ _) rfl (by decide)
theorem qReady : Statement .qReady := of_word (command_word _ _) rfl (by decide)
theorem qFrameDone : Statement .qFrameDone := of_word (command_word _ _) rfl (by decide)
theorem qChanged : Statement .qChanged := of_word (command_word _ _) rfl (by decide)
theorem qPressed : Statement .qPressed := of_word (command_word _ _) rfl (by decide)
theorem qReleased : Statement .qReleased := of_word (command_word _ _) rfl (by decide)
theorem qPressCnt : Statement .qPressCnt := of_word (command_word _ _) rfl (by decide)
theorem qBeepCnt : Statement .qBeepCnt := of_word (command_word _ _) rfl (by decide)
theorem qZoneLight (k : Nat) : Statement (.qZoneLight k) := of_word (command_word _ _) rfl (by decide)
theorem qStatusLight (k : Nat) : Statement (.qStatusLight k) := of_word (command_word _ _) rfl (by decide)
theorem qBeep : Statement .qBeep := of_word (command_word _ _) rfl (by decide)
theorem qPgm : Statement .qPgm := of_word (command_word _ _) rfl (by decide)
theorem qBtn (k : Nat) : Statement (.qBtn k) := of_word (command_word _ _) rfl (by decide)
theorem qArmed : Statement .qArmed := of_word (command_word _ _) rfl (by decide)
theorem qArmedBypass : Statement .qArmedBypass := of_word (command_word _ _) rfl (by decide)
theorem qTrouble : Statement .qTrouble := of_word (command_word _ _) rfl (by decide)
theorem qFireLatched : Statement .qFireLatched := of_word (command_word _ _) rfl (by decide)
theorem qZoneTripped (k : Nat) : Statement (.qZoneTripped k) := of_word (command_word _ _) rfl (by decide)
theorem qAnyTrippedArmed : Statement .qAnyTrippedArmed := of_word (command_word _ _) rfl (by decide)
theorem waitFrame : Statement .waitFrame := of_word (command_word _ _) rfl (by decide)
theorem reset : Statement .reset := rfl

end Sys2Proof.Laws.TableWord
end

