-- ==== Sys2Proof/Tests/Slice0.lean ====
section
/-! SUPPORT. Tests/Slice0.lean: checks of single operations against the words of 30_encoding.md and the
vectors of 95_test_vectors.md (their ids stand in the names), and for each statement with hypotheses a
state that meets them. -/

namespace Sys2Proof.Tests

open Sys2Proof Sys2Proof.Machine

/-! ## The instantiation X1 of 95_test_vectors.md section 0 -/

/-- The table KEYCODE of X1. -/
def x1Code : KeySymbol → Code
  | .d0 => 0x1E#8 | .d1 => 0x21#8 | .d2 => 0x22#8 | .d3 => 0x24#8 | .d4 => 0x29#8
  | .d5 => 0x2D#8 | .d6 => 0x33#8 | .d7 => 0x35#8 | .d8 => 0x3A#8 | .d9 => 0x3C#8
  | .star => 0x47#8 | .hash => 0x4B#8 | .fnF => 0x53#8 | .fnA => 0x65#8 | .fnP => 0x78#8

/-- The status masks of X1. -/
def x1Status : StatusBit → Word
  | .zone i => BitVec.twoPow 16 (15 - i.val)
  | .light j => BitVec.twoPow 16 (7 - j.val)
  | .beep => 0x0001#16

/-- The auxiliary masks of X1. -/
def x1Aux : AuxBit → Word
  | .pgm => 0x8000#16
  | .button b => BitVec.twoPow 16 (14 - b.val)
  | .armed => 0x0800#16
  | .armedBypass => 0x0400#16
  | .trouble => 0x0200#16
  | .fireLatched => 0x0100#16
  | .tripped i => BitVec.twoPow 16 (7 - i.val)

/-- The parameters of X1. -/
def x1 : Params := ⟨2#16, x1Code, x1Status, x1Aux⟩

/-- The machine with the given registers and nothing at its ports. -/
def at' (r : Regs) : State := { State.reset with regs := r }

/-- The machine with the given registers and one event issued. -/
def fed (r : Regs) (e : PortRecord) : State := { State.reset with regs := r, script := [e] }

/-- A tick's sample `clk data aux data2 @now`. -/
def sample (clk data aux data2 : Level) (now : Nat) : LineSample :=
  ⟨clk, data, aux, data2, BitVec.ofNat 32 now⟩

/-! ## Operands outside the interface -/

theorem test_wf_hold_refused : (Instr.sendKey (.key .d5) 256).wf = false := by decide
theorem test_wf_hold_admitted : (Instr.sendKey (.key .d5) 255).wf = true := by decide
theorem test_wf_other_key_refused : (Instr.sendKey (.other 0x35#8) 1).wf = false := by decide
theorem test_wf_zone_refused : (Instr.qZoneLight 0).wf = false ∧ (Instr.qZoneLight 7).wf = false := by decide
theorem test_wf_light_refused : (Instr.qStatusLight 0).wf = false ∧ (Instr.qStatusLight 6).wf = false := by decide
theorem test_wf_button_refused : (Instr.qBtn 0).wf = false ∧ (Instr.qBtn 4).wf = false := by decide
theorem test_wf_tripped_refused : (Instr.qZoneTripped 0).wf = false ∧ (Instr.qZoneTripped 7).wf = false := by decide

/-! ## Words written out from 30_encoding.md R79 -/

theorem test_decode_tickLow : decode ⟨0b0000000#7, 0x0000C35002#40⟩ = .ok (.tickLow false true false 50000#32) := by decide
theorem test_decode_tickRise : decode ⟨0b0000001#7, 0x0000C35001#40⟩ = .ok (.tickRise true false false 50000#32) := by decide
theorem test_decode_tickFall : decode ⟨0b0000010#7, 0x0000C35004#40⟩ = .ok (.tickFall false false true 50000#32) := by decide
theorem test_decode_tickHigh : decode ⟨0b0000011#7, 0xFFFFFFFF07#40⟩ = .ok (.tickHigh true true true 4294967295#32) := by decide
theorem test_decode_sendKey : decode ⟨0b0100000#7, 0x000000FF23#40⟩ = .ok (.sendKey (.key .hash) 255) := by decide
theorem test_decode_sendKey_other : decode ⟨0b0100000#7, 0x0000000378#40⟩ = .ok (.sendKey (.other 0x78#8) 3) := by decide
theorem test_decode_queries_engine :
    decode ⟨0b0100001#7, 0#40⟩ = .ok .qReady ∧ decode ⟨0b0100010#7, 0#40⟩ = .ok .qFrameDone ∧
    decode ⟨0b0100011#7, 0#40⟩ = .ok .qChanged ∧ decode ⟨0b0100100#7, 0#40⟩ = .ok .qPressed ∧
    decode ⟨0b0100101#7, 0#40⟩ = .ok .qReleased ∧ decode ⟨0b0100110#7, 0#40⟩ = .ok .qPressCnt ∧
    decode ⟨0b0100111#7, 0#40⟩ = .ok .qBeepCnt := by decide
theorem test_decode_queries_status :
    decode ⟨0b0101000#7, 5#40⟩ = .ok (.qZoneLight 6) ∧ decode ⟨0b0101001#7, 4#40⟩ = .ok (.qStatusLight 5) ∧
    decode ⟨0b0101010#7, 0#40⟩ = .ok .qBeep := by decide
theorem test_decode_queries_aux :
    decode ⟨0b0101011#7, 0#40⟩ = .ok .qPgm ∧ decode ⟨0b0101100#7, 2#40⟩ = .ok (.qBtn 3) ∧
    decode ⟨0b0101101#7, 0#40⟩ = .ok .qArmed ∧ decode ⟨0b0101110#7, 0#40⟩ = .ok .qArmedBypass ∧
    decode ⟨0b0101111#7, 0#40⟩ = .ok .qTrouble ∧ decode ⟨0b0110000#7, 0#40⟩ = .ok .qFireLatched ∧
    decode ⟨0b0110001#7, 0#40⟩ = .ok (.qZoneTripped 1) ∧ decode ⟨0b0110010#7, 0#40⟩ = .ok .qAnyTrippedArmed := by decide
theorem test_decode_waitFrame : decode ⟨0b0110011#7, 0#40⟩ = .ok .waitFrame := by decide
theorem test_decode_reset : decode ⟨0b1000000#7, 0#40⟩ = .ok .reset := by decide
theorem test_decode_reserved :
    decode ⟨0b1100000#7, 0#40⟩ = .error .reservedClass ∧ decode ⟨0b0000100#7, 0#40⟩ = .error .reservedTick ∧
    decode ⟨0b1000001#7, 0#40⟩ = .error .reservedReset ∧ decode ⟨0b0110100#7, 0#40⟩ = .error .reservedCommand ∧
    decode ⟨0b0111111#7, 0#40⟩ = .error .reservedCommand := by decide
theorem test_decode_operand_refused :
    decode ⟨0b0101000#7, 6#40⟩ = .error .indexOutOfRange ∧ decode ⟨0b0101001#7, 5#40⟩ = .error .indexOutOfRange ∧
    decode ⟨0b0101100#7, 3#40⟩ = .error .indexOutOfRange ∧ decode ⟨0b0110001#7, 6#40⟩ = .error .indexOutOfRange ∧
    decode ⟨0b0100000#7, 0x0000010035#40⟩ = .error .holdOutOfRange := by decide
/-- A sub-operation has no word of its own: the word of its row is a tick's (R79). -/
theorem test_decode_subOperation_word : decode (encode .txSlot) = .ok (.tickRise false false false 0#32) ∧
    decode (encode (.keySample true)) = .ok (.tickFall false false true 0#32) := by decide
theorem test_decodeTableWord : decodeTableWord 8 0x40 = some .reset ∧ decodeTableWord 8 0x02 = some (.tickFall false false false 0#32) ∧
    decodeTableWord 8 0x31 = some (.qZoneTripped 1) ∧ decodeTableWord 8 0x60 = none := by decide
/-- Bit `e` of a tick's word is the Edge Memory (R79): with it clear, word 0x03 is a rising edge. -/
theorem test_event_reads_edgeMem : step (fed Regs.reset ⟨0b0000011#7, 0#40⟩) =
    exec (.tickRise false false false 0#32) State.reset := by rfl
theorem test_withFetchWord_fall : step (State.reset.withFetchWord 8 0x02) =
    exec (.tickFall false false false 0#32) (at' { Regs.reset with edgeMem := true }) := by rfl

/-! ## TICK and its cases -/

theorem test_V40_9 : ({ Regs.reset with pos := 3#5, sync := true, stAcc := 0xA000#16, idleT := 50000#32 } : Regs).tick x1
      (sample true true true true 50400) = { Regs.reset with pos := 4#5, sync := true, stAcc := 0xB000#16, auxAcc := 0x1000#16, edgeMem := true, idleT := 50400#32 } := by decide
theorem test_V40_17 : Regs.reset.tick x1 (sample true true true true 26000) =
    { Regs.reset with pos := 1#5, sync := true, stAcc := 0x8000#16, auxAcc := 0x8000#16, edgeMem := true, idleT := 26000#32, quietCnt := 1#16 } := by decide
theorem test_V40_12 : ({ Regs.reset with stAvail := 0xA5C3#16, frameDone := true, edgeMem := true, idleT := 55600#32 } : Regs).tick x1
      (sample true true true true 55700) = { Regs.reset with stAvail := 0xA5C3#16, edgeMem := true, idleT := 55600#32 } := by decide
theorem test_V40_14 : ({ Regs.reset with edgeMem := true, idleT := 4294960000#32 } : Regs).tick x1 (sample true true true true 19204) =
    { Regs.reset with sync := true, edgeMem := true, idleT := 4294960000#32 } := by decide
theorem test_V41_11 : ({ Regs.reset with pos := 3#5, sync := true, edgeMem := true, idleT := 50000#32 } : Regs).tick x1
      (sample false true true false 50800) = { Regs.reset with pos := 3#5, sync := true, keyAcc := 0x10#7, idleT := 50000#32 } := by decide
/-- V41.23, the sixteenth edge. -/
theorem test_V41_23 : ({ Regs.reset with pos := 15#5, sync := true, stAcc := 0xA5C2#16, auxAcc := 0x3C5A#16, keyAcc := 0x2D#7, stAvail := 0x1111#16, auxAvail := 0x2222#16, keyAvail := 0x21#7, stPrev := 0x3333#16, keyPrev := 0x4B#7, idleT := 50000#32, txCode := 0x35#8, txHold := 2#8, txCur := 7#3, beepCnt := 4#16, pressed := 0x21#7, released := 0x4B#7, pressCnt := 1#16 } : Regs).tick x1
      (sample true true false true 51600) =
    { Regs.reset with stAcc := 0xA5C3#16, auxAcc := 0x3C5A#16, keyAcc := 0x2D#7, stAvail := 0xA5C3#16, auxAvail := 0x3C5A#16, keyAvail := 0x2D#7, stPrev := 0x1111#16, keyPrev := 0x21#7, frameDone := true, edgeMem := true, idleT := 51600#32, txCode := 0x35#8, txHold := 2#8, txCur := 7#3, beepCnt := 5#16, pressed := 0x2D#7, released := 0x21#7, pressCnt := 1#16, changed := true } := by decide
theorem test_V42_2 : ({ Regs.reset with sync := true, idleT := 50000#32, txCode := 0x47#8, txHold := 1#8, quietCnt := 2#16 } : Regs).tick x1
      (sample true true false true 51600) = { Regs.reset with pos := 1#5, sync := true, stAcc := 0x8000#16, edgeMem := true, idleT := 51600#32, txCode := 0x47#8, txHold := 1#8, txCur := 1#3, txActive := true, driveLow := true } := by decide
theorem test_V42_13 : ({ Regs.reset with pos := 7#5, sync := true, stAcc := 0xE000#16, idleT := 50000#32, txCode := 0x2D#8, txHold := 2#8, txActive := true, driveLow := true } : Regs).tick x1
      (sample true false false false 51600) = { Regs.reset with pos := 8#5, sync := true, stAcc := 0xE000#16, edgeMem := true, idleT := 51600#32, txCode := 0x2D#8, txHold := 2#8 } := by decide
/-- V40.8 to V40.11: the four cases from one state, as operations of the machine. -/
theorem test_V40_8_tickLow : exec (.tickLow true true true 50400#32) (at' { Regs.reset with pos := 3#5, sync := true, idleT := 50000#32 }) =
    .next (at' { Regs.reset with pos := 3#5, sync := true, idleT := 50000#32 }) := by rfl
theorem test_V40_10_tickFall : exec (.tickFall false true false 50400#32) (at' { Regs.reset with pos := 3#5, sync := true, edgeMem := true, idleT := 50000#32 }) =
    .next (at' { Regs.reset with pos := 3#5, sync := true, keyAcc := 0x10#7, idleT := 50000#32 }) := by rfl
theorem test_V40_7_tickHigh : exec (.tickHigh true true true 126500#32) (at' { Regs.reset with edgeMem := true, idleT := 100000#32 }) =
    .next (at' { Regs.reset with sync := true, edgeMem := true, idleT := 100000#32 }) := by rfl
theorem test_V40_13_tickRise : exec (.tickRise true true true 51600#32) (at' { Regs.reset with stAcc := 0x1234#16, idleT := 50000#32, txCode := 0x2D#8, txHold := 1#8, quietCnt := 4#16 }) =
    .next (at' { Regs.reset with stAcc := 0x1234#16, edgeMem := true, idleT := 51600#32, txCode := 0x2D#8, txHold := 1#8, quietCnt := 4#16 }) := by rfl

/-! ## The sub-operations -/

theorem test_clearDone : exec .clearDone (at' { Regs.reset with frameDone := true, changed := true }) =
    .next (at' { Regs.reset with changed := true }) := by rfl
theorem test_resync : exec .resync (at' { Regs.reset with pos := 5#5, stAcc := 0xF800#16, auxAcc := 0x0800#16, keyAcc := 0x28#7, stAvail := 0x1111#16 }) =
    .next (at' { Regs.reset with sync := true, stAvail := 0x1111#16 }) := by rfl
theorem test_keySample_first_last : ({ Regs.reset with pos := 1#5 } : Regs).keySample false = { Regs.reset with pos := 1#5, keyAcc := 0x40#7 } ∧
    ({ Regs.reset with pos := 7#5 } : Regs).keySample false = { Regs.reset with pos := 7#5, keyAcc := 0x01#7 } := by decide
theorem test_keySample_keeps_set_bits : ({ Regs.reset with pos := 3#5, keyAcc := 0x50#7 } : Regs).keySample true =
    { Regs.reset with pos := 3#5, keyAcc := 0x50#7 } := by decide
theorem test_stamp : exec (.stamp 51600#32) State.reset = .next (at' { Regs.reset with idleT := 51600#32 }) := by rfl
theorem test_bitShift_V41_16 : ({ Regs.reset with pos := 1#5, stAcc := 0x8000#16 } : Regs).bitShift true true =
    { Regs.reset with pos := 2#5, stAcc := 0xC000#16, auxAcc := 0x4000#16 } := by decide
theorem test_bitShift_V41_21 : ({ Regs.reset with pos := 4#5, stAcc := 0xA000#16, auxAcc := 0x5000#16 } : Regs).bitShift true false =
    { Regs.reset with pos := 5#5, stAcc := 0xA800#16, auxAcc := 0x5000#16 } := by decide
theorem test_firstBit_quiet_saturates : ({ Regs.reset with txActive := true, txCur := 7#3, quietCnt := 65535#16 } : Regs).firstBit =
    { Regs.reset with txActive := true, txCur := 7#3, quietCnt := 65535#16 } := by decide
theorem test_firstBit_pending : ({ Regs.reset with txCode := 0x2D#8, txHold := 3#8, txCur := 5#3, quietCnt := 9#16 } : Regs).firstBit =
    { Regs.reset with txCode := 0x2D#8, txHold := 3#8, txActive := true } := by decide
theorem test_release : exec .release (at' { Regs.reset with driveLow := true, txActive := true }) =
    .next (at' { Regs.reset with txActive := true }) := by rfl
theorem test_txEnd : exec .txEnd (at' { Regs.reset with txCode := 0x2D#8, txHold := 2#8, txCur := 6#3, txActive := true }) =
    .next (at' { Regs.reset with txCode := 0x2D#8, txHold := 2#8, txCur := 6#3 }) := by rfl
theorem test_txSlot_V42_7 : ({ Regs.reset with txCode := 0x2D#8, txHold := 3#8, txCur := 3#3, txActive := true } : Regs).txSlot =
    { Regs.reset with txCode := 0x2D#8, txHold := 3#8, txCur := 4#3, txActive := true, driveLow := true } := by decide
theorem test_txSlot_V42_10 : ({ Regs.reset with txCode := 0x2D#8, txHold := 1#8, txCur := 6#3, txActive := true } : Regs).txSlot =
    { Regs.reset with txCur := 7#3, txActive := true, driveLow := true } := by decide
theorem test_holdCountdown_V42_11 : exec .holdCountdown (at' { Regs.reset with txCode := 0x22#8, txHold := 255#8 }) =
    .next (at' { Regs.reset with txCode := 0x22#8, txHold := 254#8 }) := by rfl
theorem test_complete_V41_24 : ({ Regs.reset with pos := 16#5, sync := true, stAcc := 0xA5C2#16, keyAcc := 0x2D#7, stAvail := 0x1111#16, keyAvail := 0x21#7, beepCnt := 4#16 } : Regs).complete x1 =
    { Regs.reset with stAcc := 0xA5C2#16, keyAcc := 0x2D#7, stAvail := 0xA5C2#16, keyAvail := 0x2D#7, stPrev := 0x1111#16, keyPrev := 0x21#7, frameDone := true } := by decide
theorem test_beepUpdate_saturates : ({ Regs.reset with stAvail := 0xA5C3#16, beepCnt := 65535#16 } : Regs).beepUpdate x1 =
    { Regs.reset with stAvail := 0xA5C3#16, beepCnt := 65535#16 } := by decide
theorem test_interpret_V41_26 : ({ Regs.reset with stAvail := 0x1111#16, stPrev := 0x1111#16, keyAvail := 0x21#7, keyPrev := 0x21#7, pressCnt := 65535#16, changed := true } : Regs).interpret =
    { Regs.reset with stAvail := 0x1111#16, stPrev := 0x1111#16, keyAvail := 0x21#7, keyPrev := 0x21#7, pressed := 0x21#7, pressCnt := 65535#16 } := by decide
theorem test_changeUpdate : ({ Regs.reset with stAvail := 0x0100#16 } : Regs).changeUpdate = { Regs.reset with stAvail := 0x0100#16, changed := true } := by decide
theorem test_keyClassify_V44_7 : ({ Regs.reset with keyPrev := 0x2D#7, keyAvail := 0x21#7, pressCnt := 7#16, released := 0x7E#7 } : Regs).keyClassify =
    { Regs.reset with keyPrev := 0x2D#7, keyAvail := 0x21#7, pressed := 0x21#7, released := 0x2D#7, pressCnt := 1#16 } := by decide
theorem test_keyClassify_V44_6 : ({ Regs.reset with keyPrev := 0x2D#7, pressCnt := 7#16, released := 0x7E#7 } : Regs).keyClassify =
    { Regs.reset with keyPrev := 0x2D#7, released := 0x2D#7 } := by decide
theorem test_saveClk : exec (.saveClk true) State.reset = .next (at' { Regs.reset with edgeMem := true }) := by rfl

/-! ## Host operations and queries -/

theorem test_sendKey_V43_2 : State.sendKey x1 (.key .hash) 1 (at' { Regs.reset with pos := 12#5, sync := true, txCur := 7#3, quietCnt := 2#16 }) =
    { at' { Regs.reset with pos := 12#5, sync := true, txCode := 0x4B#8, txHold := 1#8, quietCnt := 2#16 } with result := .accept } := by decide
theorem test_sendKey_V43_3_to_V43_6 :
    accepts x1 (.other 0x78#8) 3 { Regs.reset with quietCnt := 2#16 } = false ∧
    accepts x1 (.key .d5) 0 { Regs.reset with quietCnt := 2#16 } = false ∧
    accepts x1 (.key .d5) 3 { Regs.reset with quietCnt := 1#16 } = false ∧
    accepts x1 (.key .d7) 1 { Regs.reset with txCode := 0x2D#8, txHold := 1#8, quietCnt := 7#16 } = false := by decide
theorem test_ready_V43_15_to_V43_17 : ready x1 { Regs.reset with quietCnt := 1#16 } = false ∧
    ready x1 { Regs.reset with quietCnt := 2#16 } = true ∧
    ready x1 { Regs.reset with txCode := 0x2D#8, quietCnt := 9#16 } = false := by decide
theorem test_pressed_released_P1 : decodeKey x1 0x2D#7 = some .d5 ∧ decodeKey x1 0#7 = none ∧ decodeKey x1 0x7F#7 = none := by decide
theorem test_decode_V44_17 : decodeCode x1 0xAD#8 = none := by decide
theorem test_query_counts : exec .qPressCnt (at' { Regs.reset with pressCnt := 3#16 }) =
      .next { at' { Regs.reset with pressCnt := 3#16 } with result := .count 3#16 } ∧
    exec .qBeepCnt (at' { Regs.reset with beepCnt := 7#16 }) =
      .next { at' { Regs.reset with beepCnt := 7#16 } with result := .count 7#16 } := ⟨rfl, rfl⟩
/-- The status queries at the end of program P1. -/
theorem test_statusFields_P1 :
    (List.ofFn fun i : Fin 6 => statusField x1 { Regs.reset with stAvail := 0xA5C3#16 } (.zone i)) =
      [true, false, true, false, false, true] ∧
    (List.ofFn fun j : Fin 5 => statusField x1 { Regs.reset with stAvail := 0xA5C3#16 } (.light j)) =
      [true, true, false, false, false] ∧
    statusField x1 { Regs.reset with stAvail := 0xA5C3#16 } .beep = true := by decide
/-- The auxiliary queries at the end of program P1. -/
theorem test_auxFields_P1 :
    ([.pgm, .button 0, .button 1, .button 2, .armed, .armedBypass, .trouble, .fireLatched].map
      (auxField x1 { Regs.reset with auxAvail := 0x3C5A#16 })) =
      [false, false, true, true, true, true, false, false] ∧
    trippedAll.map (auxField x1 { Regs.reset with auxAvail := 0x3C5A#16 }) =
      [false, true, false, true, true, false] := by decide
theorem test_anyTrippedArmed : ([0x0800#16, 0x0080#16, 0x0880#16, 0x0480#16, 0x0804#16, 0xFF03#16].map
      fun a => anyTrippedArmed x1 { Regs.reset with auxAvail := a }) =
    [false, false, true, false, true, false] := by decide
theorem test_indexed_operands : zoneField 1 = some (.zone 0) ∧ zoneField 6 = some (.zone 5) ∧
    lightField 5 = some (.light 4) ∧ buttonField 3 = some (.button 2) ∧ trippedField 6 = some (.tripped 5) := by decide
theorem test_reset : exec .reset (at' { Regs.reset with frameDone := true, txCode := 0x35#8, txHold := 1#8 }) =
    .next State.reset := by rfl
/-- A poll of WAIT_FRAME that completes no frame leaves WAIT_FRAME the next event (R169). -/
theorem test_waitFrame_goes_on : exec .waitFrame { State.reset with env := [sample false true true true 5] } =
    .next { State.reset with script := [encode .waitFrame] } := by rfl
theorem test_idle_step : step State.reset = .next State.reset := by rfl

/-! ## Witnesses: states and operands that meet the hypotheses of the statements -/

theorem witness_DecodeEncodeRoundTrip : (Instr.sendKey (.other 0x78#8) 255).wf = true ∧
    (Instr.sendKey (.other 0x78#8) 255).isEvent = true ∧ (Instr.qStatusLight 5).wf = true ∧
    (Instr.qStatusLight 5).isEvent = true := by decide
theorem witness_DecodedRecordsAreEvents : decode ⟨0b0101100#7, 2#40⟩ = .ok (.qBtn 3) := by decide
theorem witness_SubOperationWordsAreTicks : Instr.resync.isEvent = false ∧ (Instr.keySample true).isEvent = false := by decide
theorem witness_StepRunsTheDecodedEvent :
    (fed Regs.reset (encode .qReady)).script = encode .qReady :: [] ∧
    decode { encode .qReady with ev := eventWord false (encode .qReady).ev } = .ok .qReady ∧
    decode { (⟨0b1100000#7, 0#40⟩ : PortRecord) with ev := eventWord false 0b1100000#7 } = .error .reservedClass ∧
    State.reset.script = [] := by decide
theorem witness_TickEventRunsTick : (fed Regs.reset (encode (.tick true false true false 7#32))).script =
    encode (.tick true false true false 7#32) :: [] := by decide

/-- A state in a frame, at the given position, with the clock last seen low, last rising edge at 50000. -/
def inFrame (p : BitVec 5) : Regs := { Regs.reset with pos := p, sync := true, idleT := 50000#32 }

theorem witness_TickIsItsSubOperations : (inFrame 15#5).pos.toNat ≤ 15 ∧ ¬ (inFrame 15#5).gapAt 51600#32 := by decide
theorem witness_TickLowOnlyClearsFrameDone : (at' Regs.reset).regs.edgeMem = false := by decide
theorem witness_TickFallSamplesOneKeypadBit : (at' { inFrame 7#5 with edgeMem := true }).regs.edgeMem = true := by decide
theorem witness_TickHighRunsOnlyTheGapTest : (at' { inFrame 7#5 with edgeMem := true }).regs.edgeMem = true := by decide
theorem witness_UnsynchronizedRiseStampsAndReleases : Regs.reset.edgeMem = false ∧ Regs.reset.sync = false ∧
    ¬ Regs.reset.gapAt 24999#32 ∧ ¬ Regs.reset.gapAt 28001#32 := by decide
theorem witness_RisingEdgeShiftsOneBit_gap : (inFrame 15#5).edgeMem = false ∧
    (true = true ↔ (inFrame 15#5).gapAt 75000#32) ∧ (0 : Nat) = (if true then 0 else (inFrame 15#5).pos.toNat) := by decide
theorem witness_RisingEdgeShiftsOneBit_last : (inFrame 15#5).edgeMem = false ∧
    (false = true ↔ (inFrame 15#5).gapAt 51600#32) ∧ (inFrame 15#5).sync = true ∧
    15 = (if false then 0 else (inFrame 15#5).pos.toNat) := by decide
theorem witness_SixteenthEdgePublishesTheFrame : (inFrame 15#5).edgeMem = false ∧ (inFrame 15#5).sync = true ∧
    (inFrame 15#5).pos = 15 ∧ ¬ (inFrame 15#5).gapAt 51600#32 := by decide
theorem witness_ResyncRunsExactlyInTheWindow : (inFrame 5#5).gapAt 75000#32 ∧ (inFrame 5#5).gapAt 78000#32 ∧
    ¬ (inFrame 5#5).gapAt 74999#32 ∧ ¬ (inFrame 5#5).gapAt 78001#32 := by decide
theorem witness_ReceiveStepsPlaceTheirBits : 1 ≤ (inFrame 1#5).pos.toNat ∧ (inFrame 7#5).pos.toNat ≤ 7 ∧
    (inFrame 15#5).pos.toNat ≤ 15 := by decide
theorem witness_TransmitStepsWriteTheirRegisters : ({ inFrame 6#5 with txCur := 6#3 } : Regs).txCur.toNat < 7 ∧
    ({ inFrame 6#5 with txHold := 1#8 } : Regs).txHold ≠ 0 := by decide

theorem reset_inv : Regs.reset.Inv :=
  ⟨by decide, by decide, by decide, by decide, by decide, by decide, by decide, by decide, by decide⟩

theorem witness_FirstBitPicksUpTheRequest : (at' Regs.reset).regs.Inv ∧ (at' Regs.reset).regs.edgeMem = false ∧
    (at' Regs.reset).regs.gapAt 25000#32 := ⟨reset_inv, by decide, by decide⟩
theorem witness_FirstBitPicksUpTheRequest_sync : (inFrame 0#5).Inv ∧ (inFrame 0#5).edgeMem = false ∧
    (inFrame 0#5).sync = true ∧ (inFrame 0#5).pos = 0 :=
  ⟨⟨by decide, by decide, by decide, by decide, by decide, by decide, by decide, by decide, by decide⟩,
    by decide, by decide, by decide⟩
/-- A synchronized frame outside the gap window: at its first and last slot with transmit bits, and at the
first and last without. -/
theorem witness_SlotDrivesTheNextBit : ∀ p ∈ [1#5, 6#5], (inFrame p).edgeMem = false ∧ (inFrame p).sync = true ∧
    1 ≤ (inFrame p).pos.toNat ∧ (inFrame p).pos.toNat ≤ 6 ∧ ¬ (inFrame p).gapAt 51600#32 := by decide
theorem witness_NoEighthSlot : ∀ p ∈ [7#5, 15#5], (inFrame p).edgeMem = false ∧ (inFrame p).sync = true ∧
    7 ≤ (inFrame p).pos.toNat ∧ (inFrame p).pos.toNat ≤ 15 ∧ ¬ (inFrame p).gapAt 51600#32 := by decide

/-- A state that sends the code 0x2D, at slot `p`. -/
def sending (p : BitVec 5) : Regs :=
  { inFrame p with txCode := 0x2D#8, txHold := 1#8, txCur := BitVec.ofNat 3 p.toNat, txActive := true }

/-- The transmitting arm: first and last slot after the first bit, the last with its countdown. -/
theorem witness_SlotDrivesTheNextBit_sending : ∀ p ∈ [1#5, 6#5], (sending p).edgeMem = false ∧
    (sending p).sync = true ∧ 1 ≤ (sending p).pos.toNat ∧ (sending p).pos.toNat ≤ 6 ∧
    ¬ (sending p).gapAt 51600#32 ∧ (sending p).txActive = true ∧ (sending p).txCur.toNat < 7 ∧
    ((sending p).txCur.toNat = 6 ↔ p = 6#5) := by decide
/-- Transmitting mode with the cursor at 7 is in the arm that drives nothing. -/
theorem witness_SlotDrivesTheNextBit_served : ∀ p ∈ [1#5, 6#5],
    let r := { sending p with txCur := 7#3 }
    r.edgeMem = false ∧ r.sync = true ∧ 1 ≤ r.pos.toNat ∧ r.pos.toNat ≤ 6 ∧ ¬ r.gapAt 51600#32 ∧
    r.txActive = true ∧ ¬ r.txCur.toNat < 7 := by decide
theorem witness_FirstBitPicksUpTheRequest_pending : (sending 0#5).Inv ∧ (sending 0#5).edgeMem = false ∧
    (sending 0#5).sync = true ∧ (sending 0#5).pos = 0 ∧ (sending 0#5).txCode ≠ 0 :=
  ⟨⟨by decide, by decide, by decide, by decide, by decide, by decide, by decide, by decide, by decide⟩,
    by decide, by decide, by decide, by decide⟩
/-- The quiet arm with a stale `TX_ACTIVE` and the cursor at 7. -/
theorem witness_FirstBitPicksUpTheRequest_stale :
    let r := { inFrame 0#5 with txActive := true, txCur := 7#3 }
    r.Inv ∧ r.edgeMem = false ∧ r.sync = true ∧ r.pos = 0 ∧ r.txCode = 0 ∧ r.txActive = true :=
  ⟨⟨by decide, by decide, by decide, by decide, by decide, by decide, by decide, by decide, by decide⟩,
    by decide, by decide, by decide, by decide, by decide⟩

theorem witness_SentBitIsHeardBack : (sending 6#5).edgeMem = false ∧ (sending 6#5).sync = true ∧
    (sending 6#5).pos.toNat ≤ 6 ∧ ¬ (sending 6#5).gapAt 51600#32 ∧ (sending 6#5).txCode ≠ 0 ∧
    (sending 6#5).txActive = true ∧ (sending 6#5).txCur.toNat = (sending 6#5).pos.toNat := by decide
theorem witness_SentBitIsHeardBack_first : (sending 0#5).pos = 0 ∧ (sending 0#5).sync = true ∧
    (sending 0#5).txCode ≠ 0 ∧ ¬ (sending 0#5).gapAt 51600#32 := by decide
/-- The seventh slot of the last hold-cycle clears the request. -/
theorem witness_RequestEndsOnlyByCountdownOrReset : ∃ t,
    step (fed (sending 6#5) (encode (.tickRise true true true 51600#32))) = .next t ∧
    (sending 6#5).txCode ≠ 0 ∧ t.regs.txCode ≠ (sending 6#5).txCode := ⟨_, rfl, by decide, by decide⟩
theorem witness_RequestEndsOnlyByCountdownOrReset_reset : ∃ t,
    step (fed (sending 3#5) (encode .reset)) = .next t ∧
    (sending 3#5).txCode ≠ 0 ∧ t.regs.txCode ≠ (sending 3#5).txCode := ⟨_, rfl, by decide, by decide⟩
theorem witness_TransmittingModeStartsAtTheFirstBit : ∃ t,
    step (fed { sending 0#5 with txActive := false } (encode (.tickRise true true true 51600#32))) = .next t ∧
    ({ sending 0#5 with txActive := false } : Regs).txActive = false ∧ t.regs.txActive = true :=
  ⟨_, rfl, by decide, by decide⟩
theorem witness_OnlyRisingEdgesDriveTheFrame : ∃ t,
    step (fed { sending 3#5 with edgeMem := true } (encode (.tickFall true true true 50800#32))) = .next t ∧
    ({ sending 3#5 with edgeMem := true } : Regs).edgeMem = true ∧ t.regs.edgeMem = false ∧
    (encode (.tickFall true true true 50800#32)).ev ≠ 0x40#7 := ⟨_, rfl, by decide, by decide, by decide⟩
theorem witness_FramePositionMovesByOne : ∃ t,
    step (fed (inFrame 14#5) (encode (.tickRise true true true 51600#32))) = .next t ∧
    (inFrame 14#5).pos.toNat ≤ 15 ∧ t.regs.pos.toNat = 15 := ⟨_, rfl, by decide, by decide⟩
theorem witness_HostCommandsWriteOnlyTheRequest : ∃ t,
    step (fed (sending 3#5) (encode .qAnyTrippedArmed)) = .next t ∧
    0x20 ≤ (encode .qAnyTrippedArmed).ev.toNat ∧ (encode .qAnyTrippedArmed).ev.toNat ≤ 0x32 :=
  ⟨_, rfl, by decide, by decide⟩
theorem witness_HostCommandsWriteOnlyTheRequest_sendKey : (∃ t,
    step (fed Regs.reset (encode (.sendKey (.other 0x78#8) 1))) = .next t) ∧
    (encode (.sendKey (.other 0x78#8) 1)).ev = 0x20#7 := ⟨⟨_, rfl⟩, by decide⟩
theorem witness_SyncFollowsGapAndCompletion : ∃ t,
    step (fed (inFrame 3#5) (encode .qReady)) = .next t ∧
    0x20 ≤ (encode .qReady).ev.toNat ∧ (encode .qReady).ev.toNat ≤ 0x32 := ⟨_, rfl, by decide, by decide⟩
theorem witness_SnapshotsChangeOnlyAtCompletion : ∃ t,
    step (fed (inFrame 15#5) (encode (.tickRise true true true 51600#32))) = .next t ∧
    (encode (.tickRise true true true 51600#32)).ev ≠ 0x40#7 ∧ t.regs.stAvail ≠ (inFrame 15#5).stAvail :=
  ⟨_, rfl, by decide, by decide⟩
theorem witness_AuxiliaryLineStaysInItsStream : at' { inFrame 3#5 with auxAcc := 0x1234#16 } =
    { at' (inFrame 3#5) with regs := { inFrame 3#5 with
      auxAcc := (at' { inFrame 3#5 with auxAcc := 0x1234#16 }).regs.auxAcc
      auxAvail := (at' { inFrame 3#5 with auxAcc := 0x1234#16 }).regs.auxAvail } } := by decide
theorem witness_EachEdgeUsesItsOwnSamples : (at' Regs.reset).regs.edgeMem = false ∧
    ({ inFrame 3#5 with edgeMem := true } : Regs).edgeMem = true := by decide
theorem witness_FrameIsReceivedSlotBySlot_gap : ({ inFrame 3#5 with edgeMem := true } : Regs).edgeMem = true ∧
    ({ inFrame 3#5 with edgeMem := true } : Regs).gapAt 76500#32 := by decide
theorem witness_FrameIsReceivedSlotBySlot_first : (inFrame 0#5).HoldsSlots 0xA5C3#16 0x3C5A#16 0 ∧
    (inFrame 0#5).edgeMem = false ∧ ¬ (inFrame 0#5).gapAt 51600#32 :=
  ⟨⟨by decide, by decide, by decide, by decide⟩, by decide, by decide⟩
theorem witness_FrameIsReceivedSlotBySlot_last :
    ({ inFrame 15#5 with stAcc := 0xA5C2#16, auxAcc := 0x3C5A#16 } : Regs).HoldsSlots 0xA5C3#16 0x3C5A#16 15 :=
  ⟨by decide, by decide, by decide, by decide⟩
/-- Every quiet time is served by a saturated counter, whatever `MIN_QUIET_CYCLES` is. -/
theorem witness_SendKeyAcceptsExactly : (∃ k, Symbol.key .d5 = .key k) ∧
    (at' { Regs.reset with quietCnt := 65535#16 }).regs.txCode = 0 ∧
    Config.params.minQuiet.toNat ≤ (at' { Regs.reset with quietCnt := 65535#16 }).regs.quietCnt.toNat ∧
    (255 : Nat) ≠ 0 ∧ 255 < 256 := by
  refine ⟨⟨_, rfl⟩, by decide, ?_, by decide, by decide⟩
  have := Config.params.minQuiet.isLt
  change _ ≤ 65535
  omega
theorem witness_UnknownSymbolIsRejected : encodeSymbol Config.params (.other 0x78#8) = 0 ∧ 3 < 256 := ⟨rfl, by decide⟩
theorem witness_BusyTransmitterRejects : (sending 3#5).txCode ≠ 0 ∧ 255 < 256 := by decide
theorem witness_SecondIdenticalRequestIsRejected : (0 : Nat) < 256 ∧ 255 < 256 := by decide
theorem witness_OutOfRangeOperandsAreRefused : (0 = 0 ∨ 6 < 0) ∧ (7 = 0 ∨ 6 < 7) ∧ (6 = 0 ∨ 5 < 6) ∧ (4 = 0 ∨ 3 < 4) ∧
    256 ≤ 256 := by decide
theorem witness_WaitFrameReturnsOnlyWithAFrame : (fed Regs.reset (encode .waitFrame)).script = [encode .waitFrame] := by decide

/-- X1 meets the constraints of R203, R205 and R208, as 95_test_vectors.md says. -/
theorem witness_KeyTableRoundTrips : x1.Valid where
  codes_differ := by
    intro a b h
    revert h
    cases a <;> cases b <;> decide
  code_nonzero := by intro k; cases k <;> decide
  code_bit7_clear := by intro k; cases k <;> decide
  status_oneHot := by
    rintro (i | j | _)
    · exact ⟨⟨15 - i.val, by omega⟩, rfl⟩
    · exact ⟨⟨7 - j.val, by omega⟩, rfl⟩
    · exact ⟨0, by decide⟩
  status_differ := by
    have h : ∀ i j : Fin 6, BitVec.twoPow 16 (15 - i.val) = BitVec.twoPow 16 (15 - j.val) → i = j := by decide
    have h' : ∀ i j : Fin 5, BitVec.twoPow 16 (7 - i.val) = BitVec.twoPow 16 (7 - j.val) → i = j := by decide
    have g : ∀ (i : Fin 6) (j : Fin 5), BitVec.twoPow 16 (15 - i.val) ≠ BitVec.twoPow 16 (7 - j.val) := by decide
    have z : ∀ i : Fin 6, BitVec.twoPow 16 (15 - i.val) ≠ 0x0001#16 := by decide
    have z' : ∀ j : Fin 5, BitVec.twoPow 16 (7 - j.val) ≠ 0x0001#16 := by decide
    rintro (i | i | _) (j | j | _) e
    · exact congrArg _ (h i j e)
    · exact absurd e (g i j)
    · exact absurd e (z i)
    · exact absurd e.symm (g j i)
    · exact congrArg _ (h' i j e)
    · exact absurd e (z' i)
    · exact absurd e.symm (z j)
    · exact absurd e.symm (z' j)
    · rfl
  aux_oneHot := by
    rintro (_ | b | _ | _ | _ | _ | i)
    · exact ⟨15, by decide⟩
    · exact ⟨⟨14 - b.val, by omega⟩, rfl⟩
    · exact ⟨11, by decide⟩
    · exact ⟨10, by decide⟩
    · exact ⟨9, by decide⟩
    · exact ⟨8, by decide⟩
    · exact ⟨⟨7 - i.val, by omega⟩, rfl⟩
  aux_differ := by
    have place : ∃ f : AuxBit → Fin 16, (∀ b, x1.auxMask b = BitVec.twoPow 16 (f b).val) ∧ Function.Injective f := by
      refine ⟨fun b => match b with
        | .pgm => 15 | .button b => ⟨14 - b.val, by omega⟩ | .armed => 11 | .armedBypass => 10
        | .trouble => 9 | .fireLatched => 8 | .tripped i => ⟨7 - i.val, by omega⟩, ?_, ?_⟩
      · rintro (_ | b | _ | _ | _ | _ | i) <;> rfl
      · rintro (_ | ⟨b, hb⟩ | _ | _ | _ | _ | ⟨i, hi⟩) (_ | ⟨c, hc⟩ | _ | _ | _ | _ | ⟨j, hj⟩) e <;>
          simp [Fin.ext_iff] at e ⊢ <;> omega
    obtain ⟨f, hf, hi⟩ := place
    have two : ∀ i j : Fin 16, BitVec.twoPow 16 i.val = BitVec.twoPow 16 j.val → i = j := by decide
    intro a b e
    exact hi (two _ _ (by rw [← hf, ← hf]; exact e))

theorem witness_StepKeepsTheControlInvariants : ∃ t,
    (fed Regs.reset (encode (.tickRise true true true 26000#32))).regs.Inv ∧
    step (fed Regs.reset (encode (.tickRise true true true 26000#32))) = .next t ∧ t.regs.pos = 1 :=
  ⟨_, reset_inv, rfl, by decide⟩
theorem witness_StepKeepsComingBitsUnwritten : (inFrame 0#5).Inv ∧ (inFrame 0#5).Unwritten ∧
    ∃ t, step (fed (inFrame 0#5) (encode (.tickRise true true true 51600#32))) = .next t ∧ t.regs.stAcc = 0x8000#16 :=
  ⟨witness_FirstBitPicksUpTheRequest_sync.1, ⟨by simp [inFrame, Regs.reset], by simp [inFrame, Regs.reset],
    by simp [inFrame, Regs.reset], by simp [inFrame, Regs.reset]⟩, _, rfl, by decide⟩
theorem witness_StepKeepsDerivedRegistersTrue : Regs.reset.Derived Config.params ∧
    ∃ t, step (fed Regs.reset (encode (.tickRise true true true 5#32))) = .next t :=
  ⟨⟨by decide, by decide, by decide, by decide, by simp [Regs.reset]⟩, _, rfl⟩
theorem witness_StepKeepsThePendingCodeAKey : Regs.reset.CodeInTable Config.params ∧
    ∃ t, step (fed Regs.reset (encode .qReady)) = .next t := ⟨.inl rfl, _, rfl⟩

end Sys2Proof.Tests
end

/-! PROOFS. Proofs/HostOps.lean: the host's queries on the engine's own state (43_host_ops.md R163 to R168),
with what DECODE answers for any table that tells its keys apart (44_interpreter.md R204). -/

namespace Sys2Proof

/-! ## The key symbols and the machine's table -/

/-- The list of the key symbols is in the order of their numbers (30_encoding.md R81). -/
theorem KeySymbol.all_getElem?_index (k : KeySymbol) : KeySymbol.all[k.index.val]? = some k := by
  cases k <;> rfl

theorem KeySymbol.mem_all (k : KeySymbol) : k ∈ KeySymbol.all :=
  List.mem_of_getElem? k.all_getElem?_index

theorem KeySymbol.index_injective : Function.Injective KeySymbol.index := by
  intro k k' h
  have hk := k.all_getElem?_index
  rw [h, k'.all_getElem?_index] at hk
  exact (Option.some.inj hk).symm

/-- A code is its place among the 127 counted from 1, so the 8 bits cut nothing off. -/
theorem Config.keyCode_toNat (k : KeySymbol) :
    (Config.keyCode k).toNat = (Config.codePlace ⟨k.index.val, by omega⟩).val + 1 := by
  rw [Config.keyCode, BitVec.toNat_ofNat]
  omega

/-- Constraint (a) of R203, for the machine's own table. -/
theorem Config.keyCode_injective : Function.Injective Config.keyCode := by
  intro k k' h
  have hplace : (Config.codePlace ⟨k.index.val, by omega⟩).val =
      (Config.codePlace ⟨k'.index.val, by omega⟩).val := by
    have := congrArg BitVec.toNat h
    rw [Config.keyCode_toNat, Config.keyCode_toNat] at this
    omega
  have hindex := Config.codePlace.injective (Fin.ext hplace)
  exact KeySymbol.index_injective (Fin.ext (Fin.mk.inj hindex))

/-- Constraint (b) of R203, for the machine's own table. -/
theorem Config.keyCode_ne_zero (k : KeySymbol) : Config.keyCode k ≠ 0 := by
  intro h
  have := congrArg BitVec.toNat h
  rw [Config.keyCode_toNat] at this
  simp at this

namespace Machine

/-! ## DECODE -/

/-- What DECODE finds has the code it was asked for, in any table (R204). -/
theorem keyCode_of_decodeCode {p : Params} {c : Code} {k : KeySymbol} (h : decodeCode p c = some k) :
    p.keyCode k = c := by
  simpa using List.find?_some h

/-- In a table of different codes DECODE finds exactly the key with the code (R204). -/
theorem decodeCode_eq_some_iff {p : Params} (hp : Function.Injective p.keyCode) (c : Code) (k : KeySymbol) :
    decodeCode p c = some k ↔ p.keyCode k = c := by
  constructor
  · exact keyCode_of_decodeCode
  · rintro rfl
    cases hf : decodeCode p (p.keyCode k) with
    | none => exact absurd (beq_self_eq_true _) (List.find?_eq_none.mp hf k k.mem_all)
    | some k' => rw [hp (keyCode_of_decodeCode hf)]

/-- A code that is no key's decodes to NONE (R204). -/
theorem decodeCode_eq_none {p : Params} {c : Code} (hc : ∀ k, p.keyCode k ≠ c) : decodeCode p c = none := by
  refine List.find?_eq_none.mpr fun k _ => ?_
  rw [beq_iff_eq]
  exact hc k

/-- What a 7-bit register of the machine decodes to: the key whose code it holds (R204, R7). -/
theorem decodeKey_eq_some_iff (b : KeyBits) (k : KeySymbol) :
    decodeKey Config.params b = some k ↔ Config.params.keyCode k = b.zeroExtend 8 :=
  decodeCode_eq_some_iff Config.keyCode_injective _ k

/-- Register value 0 is no key (R165, R166). -/
theorem decodeKey_zero : decodeKey Config.params 0 = none :=
  decodeCode_eq_none Config.keyCode_ne_zero

/-! ## What the queries on the engine's own state do -/

theorem exec_qFrameDone (s : State) : exec .qFrameDone s = .next (s.answer (.bit s.regs.frameDone)) := rfl

theorem exec_qChanged (s : State) : exec .qChanged s = .next (s.answer (.bit s.regs.changed)) := rfl

theorem exec_qPressed (s : State) :
    exec .qPressed s = .next (s.answer (.symbol (decodeKey Config.params s.regs.pressed))) := rfl

theorem exec_qReleased (s : State) :
    exec .qReleased s = .next (s.answer (.symbol (decodeKey Config.params s.regs.released))) := rfl

theorem exec_qPressCnt (s : State) : exec .qPressCnt s = .next (s.answer (.count s.regs.pressCnt)) := rfl

theorem exec_qBeepCnt (s : State) : exec .qBeepCnt s = .next (s.answer (.count s.regs.beepCnt)) := rfl

/-! ## The statements -/

/-- Settles O46: each of the four queries puts its register on the result output (R163, R164, R167, R168). -/
theorem engineQueriesAnswerTheirRegister : Obligations.EngineQueriesAnswerTheirRegister := fun s =>
  ⟨exec_qFrameDone s, exec_qChanged s, exec_qPressCnt s, exec_qBeepCnt s⟩

/-- Settles O47: the answer is DECODE of the register, and the machine's table tells its keys apart and
gives none of them code 0 (R165, R166, R203, R204). -/
theorem keyQueriesAnswerTheSymbol : Obligations.KeyQueriesAnswerTheSymbol := by
  intro s
  have zero_none : ∀ b : KeyBits, b = 0 → decodeKey Config.params b = none := by
    rintro _ rfl
    exact decodeKey_zero
  constructor
  · exact ⟨_, exec_qPressed s, zero_none _, decodeKey_eq_some_iff _⟩
  · exact ⟨_, exec_qReleased s, zero_none _, decodeKey_eq_some_iff _⟩

end Machine

end Sys2Proof

/-! PROOFS. Proofs/Interpreter.lean: the host's queries on the snapshots (44_interpreter.md R206, R210 to
R214). -/

namespace Sys2Proof.Machine

/-! ## A field that an index names is answered -/

@[simp] theorem answerStatus_some (i : Nat) (b : StatusBit) (s : State) :
    answerStatus i (some b) s = .next (s.answer (.bit (statusField Config.params s.regs b))) := rfl

@[simp] theorem answerAux_some (i : Nat) (b : AuxBit) (s : State) :
    answerAux i (some b) s = .next (s.answer (.bit (auxField Config.params s.regs b))) := rfl

/-! ## What the queries on the snapshots do -/

theorem exec_qStatusLight (j : Fin 5) (s : State) : exec (.qStatusLight (j.val + 1)) s =
    .next (s.answer (.bit (statusField Config.params s.regs (.light j)))) := by
  change answerStatus _ (lightField (j.val + 1)) s = _
  rw [lightField_eq, answerStatus_some]

theorem exec_qArmed (s : State) :
    exec .qArmed s = .next (s.answer (.bit (auxField Config.params s.regs .armed))) := rfl

theorem exec_qArmedBypass (s : State) :
    exec .qArmedBypass s = .next (s.answer (.bit (auxField Config.params s.regs .armedBypass))) := rfl

theorem exec_qTrouble (s : State) :
    exec .qTrouble s = .next (s.answer (.bit (auxField Config.params s.regs .trouble))) := rfl

theorem exec_qFireLatched (s : State) :
    exec .qFireLatched s = .next (s.answer (.bit (auxField Config.params s.regs .fireLatched))) := rfl

theorem exec_qZoneTripped (i : Fin 6) (s : State) : exec (.qZoneTripped (i.val + 1)) s =
    .next (s.answer (.bit (auxField Config.params s.regs (.tripped i)))) := by
  change answerAux _ (trippedField (i.val + 1)) s = _
  rw [trippedField_eq, answerAux_some]

/-! ## The statement -/

/-- Settles O48: each of the six queries answers its field, and a field is the test of its mask against
the snapshot (R206, R210 to R214). -/
theorem maskQueriesAnswerTheMaskedField : Obligations.MaskQueriesAnswerTheMaskedField := fun s =>
  ⟨fun j => exec_qStatusLight j s, exec_qArmed s, exec_qArmedBypass s, exec_qTrouble s,
    exec_qFireLatched s, fun i => exec_qZoneTripped i s⟩

end Sys2Proof.Machine

/-! PROOFS. Proofs/Exceptions.lean: the requests that SEND_KEY rejects (60_exceptions.md R233, R234). -/

namespace Sys2Proof.Machine

/-! ## What SEND_KEY does within the interface -/

/-- An `N` of `HOLD_W` bits is not refused, so the row is the operation (R161, U17). -/
theorem exec_sendKey {n : Nat} (hn : n < 2 ^ 8) (sym : Symbol) (s : State) :
    exec (.sendKey sym n) s = .next (s.sendKey Config.params sym n) := by
  change execSendKey sym n s = _
  rw [execSendKey, if_pos hn]

/-- A request that fails one of the four tests of R161 changes the result output and nothing else. -/
theorem exec_sendKey_of_not_accepts {sym : Symbol} {n : Nat} {s : State} (hn : n < 2 ^ 8)
    (h : ¬ accepts Config.params sym n s.regs = true) :
    exec (.sendKey sym n) s = .next (s.answer .reject) := by
  rw [exec_sendKey hn]
  rcases sendKey_cases Config.params sym n s with ⟨haccepts, -⟩ | ⟨-, hreject⟩
  · exact absurd haccepts h
  · rw [hreject]

/-! ## The tests that fail -/

/-- What encodes to the sentinel fails the first test, in any table (R161, R233). -/
theorem not_accepts_of_sentinel {p : Params} {sym : Symbol} (h : encodeSymbol p sym = 0) (n : Nat)
    (r : Regs) : ¬ accepts p sym n r = true := by
  rw [accepts_iff]
  rintro ⟨hkey, -⟩
  exact hkey h

/-- A transmitter that is not ready takes no request, whatever the symbol and `N` (R161, R162, R234). -/
theorem not_accepts_of_not_ready {p : Params} {r : Regs} (h : ¬ ready p r = true) (sym : Symbol) (n : Nat) :
    ¬ accepts p sym n r = true := by
  rw [accepts_iff]
  rintro ⟨-, hfree, hquiet, -⟩
  exact h ((ready_iff p r).mpr ⟨hfree, hquiet⟩)

/-- A pending request, or a quiet time not served, each makes the transmitter not ready (R162, R234). -/
theorem not_ready_iff (p : Params) (r : Regs) :
    ¬ ready p r = true ↔ r.txCode ≠ 0 ∨ r.quietCnt.toNat < p.minQuiet.toNat := by
  rw [ready_iff, not_and_or, not_le]

/-! ## The statements -/

/-- Settles O42: the transmitter is not ready, so the request is rejected (R234). -/
theorem busyTransmitterRejects : Obligations.BusyTransmitterRejects := by
  intro sym n s hn hbusy
  have hready : ¬ ready Config.params s.regs = true := (not_ready_iff _ _).mpr hbusy
  exact exec_sendKey_of_not_accepts hn (not_accepts_of_not_ready hready sym n)

/-- Settles O41: the first test of R161 fails, so the request is rejected (R233). -/
theorem unknownSymbolIsRejected : Obligations.UnknownSymbolIsRejected := by
  intro sym n s hn hsentinel
  exact exec_sendKey_of_not_accepts hn (not_accepts_of_sentinel hsentinel n s.regs)

end Sys2Proof.Machine

/-! PROOFS. Proofs/Encoding.lean: the event words of 30_encoding.md R79, written and read: the round trip in
both directions, and which records are refused (R80, 93: U17). -/

namespace Sys2Proof

open Machine (eventWord)

/-! ## The two fields of an event word -/

theorem evClass_eq (ev : BitVec 7) : evClass ev = ev.toNat / 32 := by revert ev; decide

theorem evNumber_eq (ev : BitVec 7) : evNumber ev = ev.toNat % 32 := by revert ev; decide

/-- Class and number make the event word. -/
theorem ev_eq_of_fields {ev : BitVec 7} {c n : Nat} (hc : evClass ev = c) (hn : evNumber ev = n) :
    ev = BitVec.ofNat 7 (32 * c + n) := by
  rw [evClass_eq] at hc
  rw [evNumber_eq] at hn
  apply BitVec.eq_of_toNat_eq
  rw [BitVec.toNat_ofNat]
  omega

/-! ## Operands that the port carries -/

/-- The port's reader answers `.other` only for a character that is no key's. -/
theorem PortRecord.symbol_wf (r : PortRecord) : r.symbol.wf = true := by
  unfold PortRecord.symbol
  dsimp only
  split
  · rfl
  · next h => simp [Symbol.wf, h]

theorem PortRecord.one_le_index (r : PortRecord) : 1 ≤ r.index := Nat.le_add_left 1 _

theorem guardOperand_of_true {ok : Bool} (h : ok = true) (why : Reject) (i : Instr) :
    guardOperand ok why i = .ok i := by
  rw [guardOperand, if_pos h]

theorem guardOperand_eq_ok {ok : Bool} {why : Reject} {i j : Instr}
    (h : guardOperand ok why i = .ok j) : ok = true ∧ i = j := by
  unfold guardOperand at h
  split at h
  · next hok => exact ⟨hok, Except.ok.inj h⟩
  · cases h

theorem guardOperand_isError_iff (ok : Bool) (why : Reject) (i : Instr) :
    (∃ e, guardOperand ok why i = .error e) ↔ ok = false := by
  cases ok <;> simp [guardOperand]

/-! ## What the encoder writes is read back -/

/-- A command's record is read by the arm of its number (R79). -/
theorem decode_commandRecord_eq {k : BitVec 5} {w : BitVec 40} {a : Except Reject Instr}
    (h : evNumber (commandRecord k w).ev = k.toNat → decodeCommand (commandRecord k w) = a) :
    decode (commandRecord k w) = a := by
  rw [decode_commandRecord, h (evNumber_commandRecord k w)]

/-- SEND_KEY is read back with its symbol and its count. -/
theorem decode_encode_sendKey {sym : Symbol} {n : Nat} (hsym : sym.wf = true) (hn : holdOk n = true) :
    decode (encode (.sendKey sym n)) = .ok (.sendKey sym n) := by
  have hlt : n < 2 ^ 16 := by
    have : n < 2 ^ 8 := of_decide_eq_true hn
    omega
  refine decode_commandRecord_eq fun hnum => ?_
  rw [decodeCommand, hnum, symbol_sendKeyWires 0 sym n hsym, hold_sendKeyWires 0 sym n hlt]
  exact guardOperand_of_true hn _ _

/-- The index of an indexed query is one the wires carry. -/
theorem index_commandRecord {k : BitVec 5} {i b : Nat} (h : 1 ≤ i ∧ i ≤ b) (hb : b ≤ 256) :
    (commandRecord k (indexWires i)).index = i :=
  index_indexWires k i h.1 (h.2.trans hb)

theorem decode_encode_qZoneLight {i : Nat} (h : zoneOk i = true) :
    decode (encode (.qZoneLight i)) = .ok (.qZoneLight i) := by
  refine decode_commandRecord_eq fun hnum => ?_
  rw [decodeCommand, hnum, index_commandRecord (of_decide_eq_true h) (by decide)]
  exact guardOperand_of_true h _ _

theorem decode_encode_qStatusLight {j : Nat} (h : lightOk j = true) :
    decode (encode (.qStatusLight j)) = .ok (.qStatusLight j) := by
  refine decode_commandRecord_eq fun hnum => ?_
  rw [decodeCommand, hnum, index_commandRecord (of_decide_eq_true h) (by decide)]
  exact guardOperand_of_true h _ _

theorem decode_encode_qBtn {b : Nat} (h : buttonOk b = true) :
    decode (encode (.qBtn b)) = .ok (.qBtn b) := by
  refine decode_commandRecord_eq fun hnum => ?_
  rw [decodeCommand, hnum, index_commandRecord (of_decide_eq_true h) (by decide)]
  exact guardOperand_of_true h _ _

theorem decode_encode_qZoneTripped {i : Nat} (h : zoneOk i = true) :
    decode (encode (.qZoneTripped i)) = .ok (.qZoneTripped i) := by
  refine decode_commandRecord_eq fun hnum => ?_
  rw [decodeCommand, hnum, index_commandRecord (of_decide_eq_true h) (by decide)]
  exact guardOperand_of_true h _ _

/-- Settles O1: a tick's record is read as its case, a command's by its number with its operands back from
the wires, and RESET has one word. -/
theorem decodeEncodeRoundTrip : Obligations.DecodeEncodeRoundTrip := by
  intro i hwf hevent
  cases i with
  | tickLow d a b n => exact decode_tickRecord false false d a b n
  | tickRise d a b n => exact decode_tickRecord false true d a b n
  | tickFall d a b n => exact decode_tickRecord true false d a b n
  | tickHigh d a b n => exact decode_tickRecord true true d a b n
  | sendKey sym n =>
    obtain ⟨hsym, hn⟩ := Bool.and_eq_true_iff.mp hwf
    exact decode_encode_sendKey hsym hn
  | qZoneLight i => exact decode_encode_qZoneLight hwf
  | qStatusLight j => exact decode_encode_qStatusLight hwf
  | qBtn b => exact decode_encode_qBtn hwf
  | qZoneTripped i => exact decode_encode_qZoneTripped hwf
  | qReady | qFrameDone | qChanged | qPressed | qReleased | qPressCnt | qBeepCnt | qBeep | qPgm | qArmed
  | qArmedBypass | qTrouble | qFireLatched | qAnyTrippedArmed | waitFrame | reset => rfl
  | _ => exact absurd hevent (by unfold Instr.isEvent; exact Bool.noConfusion)

/-! ## What the decoder reads is written back -/

/-- What a record of class 00 is read as has the record's word (R79). -/
theorem encode_of_decodeTick {r : PortRecord} {i : Instr} (hc : evClass r.ev = 0)
    (h : decodeTick r = .ok i) : i.wf = true ∧ (encode i).ev = r.ev := by
  have hword : ∀ ev : BitVec 7, evClass ev = 0 → ev.extractLsb' 2 3 = 0#3 →
      ev = (0#5 ++ BitVec.ofBool (ev.getLsbD 1) ++ BitVec.ofBool (ev.getLsbD 0) : BitVec 7) := by decide
  unfold decodeTick at h
  split at h
  · cases h
  · next hlow =>
    have hev := hword r.ev hc (not_not.mp hlow)
    split at h
    all_goals
      next he hk =>
      cases h
      rw [he, hk] at hev
      exact ⟨rfl, hev.symm⟩

/-- What a record of class 01 is read as has admitted operands and the record's word (R79, R80 (e)). -/
theorem encode_of_decodeCommand {r : PortRecord} {i : Instr} (hc : evClass r.ev = 1)
    (h : decodeCommand r = .ok i) : i.wf = true ∧ (encode i).ev = r.ev := by
  unfold decodeCommand at h
  split at h
  case h_1 hn =>
    obtain ⟨hok, rfl⟩ := guardOperand_eq_ok h
    exact ⟨Bool.and_eq_true_iff.mpr ⟨r.symbol_wf, hok⟩, (ev_eq_of_fields hc hn).symm⟩
  case h_9 hn | h_10 hn | h_13 hn | h_18 hn =>
    obtain ⟨hok, rfl⟩ := guardOperand_eq_ok h
    exact ⟨hok, (ev_eq_of_fields hc hn).symm⟩
  case h_21 => cases h
  all_goals
    next hn =>
    cases h
    exact ⟨rfl, (ev_eq_of_fields hc hn).symm⟩

theorem encode_of_decodeReset {r : PortRecord} {i : Instr} (hc : evClass r.ev = 2)
    (h : decodeReset r = .ok i) : i.wf = true ∧ (encode i).ev = r.ev := by
  unfold decodeReset at h
  split at h
  · next hn =>
    cases h
    exact ⟨rfl, (ev_eq_of_fields hc hn).symm⟩
  · cases h

/-- What the decoder answers has admitted operands and the word that was read. -/
theorem encode_of_decode {r : PortRecord} {i : Instr} (h : decode r = .ok i) :
    i.wf = true ∧ (encode i).ev = r.ev := by
  unfold decode at h
  split at h
  · next hc => exact encode_of_decodeTick hc h
  · next hc => exact encode_of_decodeCommand hc h
  · next hc => exact encode_of_decodeReset hc h
  · cases h

/-- Settles O2, class by class. -/
theorem decodedRecordsAreEvents : Obligations.DecodedRecordsAreEvents := by
  intro r i h
  obtain ⟨hwf, hev⟩ := encode_of_decode h
  exact ⟨hwf, Machine.decode_isEvent h, hev⟩

/-! ## Which records are refused -/

/-- Class 00 is refused for a word with `EV[4:2]` not 0 (R80 (d)). -/
theorem decodeTick_isError_iff {r : PortRecord} (hc : evClass r.ev = 0) :
    (∃ why, decodeTick r = .error why) ↔ 4 ≤ r.ev.toNat := by
  have hword : ∀ ev : BitVec 7, evClass ev = 0 → (ev.extractLsb' 2 3 ≠ 0#3 ↔ 4 ≤ ev.toNat) := by decide
  rw [← hword r.ev hc]
  unfold decodeTick
  split
  · next h => exact ⟨fun _ => h, fun _ => ⟨_, rfl⟩⟩
  · next h =>
    refine ⟨?_, fun h' => absurd h' h⟩
    rintro ⟨why, h'⟩
    split at h' <;> cases h'

/-- Class 01 is refused for a number from 20 and for an operand out of range (R80 (d), (e), U17). -/
theorem decodeCommand_isError_iff (r : PortRecord) :
    (∃ why, decodeCommand r = .error why) ↔
      20 ≤ evNumber r.ev ∨ (evNumber r.ev = 0 ∧ 256 ≤ r.hold) ∨
      ((evNumber r.ev = 8 ∨ evNumber r.ev = 17) ∧ 6 < r.index) ∨
      (evNumber r.ev = 9 ∧ 5 < r.index) ∨ (evNumber r.ev = 12 ∧ 3 < r.index) := by
  have hindex := r.one_le_index
  have hlt : evNumber r.ev < 32 := (r.ev.extractLsb' 0 5).isLt
  unfold decodeCommand
  split
  case h_21 =>
    simp only [imp_false] at *
    exact iff_of_true ⟨_, rfl⟩ (.inl (by omega))
  all_goals
    next hn =>
    simp only [guardOperand_isError_iff, holdOk, zoneOk, lightOk, buttonOk, decide_eq_false_iff_not,
      reduceCtorEq, exists_false, false_iff]
    omega

/-- Class 10 is refused for every word but RESET's (R80 (d)). -/
theorem decodeReset_isError_iff (r : PortRecord) :
    (∃ why, decodeReset r = .error why) ↔ evNumber r.ev ≠ 0 := by
  unfold decodeReset
  split <;> simp [*]

/-- Settles O3: each class by its own words, put together by the number the word is. -/
theorem decodeRefusesExactlyTheReserved : Obligations.DecodeRefusesExactlyTheReserved := by
  intro r
  have hclass := evClass_eq r.ev
  have hnumber := evNumber_eq r.ev
  have hlt := r.ev.isLt
  simp only [BitVec.toNat_eq, BitVec.reduceToNat]
  unfold decode
  split
  · next hc => rw [decodeTick_isError_iff hc]; omega
  · next hc => rw [decodeCommand_isError_iff]; omega
  · next hc => rw [decodeReset_isError_iff]; omega
  · next h0 h1 h2 =>
    simp only [imp_false] at h0 h1 h2
    exact iff_of_true ⟨_, rfl⟩ (by omega)

/-! ## The words of sub-operations, and samples -/

/-- With bit 1 read from the Edge Memory a tick's record is the record of the case with that edge (R79). -/
theorem readTickRecord (e' e c d a b : Level) (n : Timestamp) :
    { tickRecord e c d a b n with ev := eventWord e' (tickRecord e c d a b n).ev } =
      tickRecord e' c d a b n := by
  rw [eventWord_tickRecord]
  rfl

/-- Settles O5: the record of a sub-operation is a tick's, and is read as the case of its edge and clock. -/
theorem subOperationWordsAreTicks : Obligations.SubOperationWordsAreTicks := by
  intro i e hi
  obtain ⟨e', c, d, a, b, n, henc⟩ := encode_of_not_event hi
  refine ⟨d, a, b, n, ?_⟩
  rw [henc, readTickRecord, decode_tickRecord]
  cases e <;> cases c <;> simp [tickCase]

/-- Settles O4, by running the decoder on each record. -/
theorem sampleWordsDecode : Obligations.SampleWordsDecode := by
  unfold Obligations.SampleWordsDecode
  decide

end Sys2Proof

/-! PROOFS. Proofs/TickShapes.lean: what a TICK makes of the registers, as one record update for each of its
shapes (40_tick_sync.md R105 to R109): the facts every statement about a TICK rests on. -/

namespace Sys2Proof.Machine

/-! ## The steps with a condition of their own, as record updates -/

theorem Regs.keyClassify_frame (r : Regs) : r.keyClassify = { r with
    pressed := r.keyClassify.pressed, released := r.keyClassify.released
    pressCnt := r.keyClassify.pressCnt } := by
  unfold Regs.keyClassify
  split <;> split <;> (try split) <;> rfl

theorem Regs.interpret_eq (r : Regs) : r.interpret = { r with
    changed := decide (r.stAvail ≠ r.stPrev), pressed := r.keyAvail
    released := if r.keyPrev ≠ 0 ∧ r.keyAvail ≠ r.keyPrev then r.keyPrev else 0
    pressCnt := if r.keyAvail = 0 then 0 else
      if r.keyPrev ≠ 0 ∧ r.keyAvail = r.keyPrev then satInc r.pressCnt else 1 } := by
  rw [Regs.interpret, Regs.keyClassify_frame, Regs.keyClassify_pressed, Regs.keyClassify_released,
    Regs.keyClassify_pressCnt]
  rfl

theorem Regs.txSlot_frame (r : Regs) : r.txSlot = { r with
    driveLow := r.txSlot.driveLow, txCur := r.txSlot.txCur
    txHold := r.txSlot.txHold, txCode := r.txSlot.txCode } := by
  unfold Regs.txSlot
  split <;> rfl

theorem Regs.txSlot_eq (r : Regs) : r.txSlot = { r with
    driveLow := r.txCode.getLsbD (slotPlace r.txCur) || r.driveLow
    txCur := r.txCur + 1
    txHold := if r.txCur.toNat = 6 then r.txHold - 1 else r.txHold
    txCode := if r.txCur.toNat = 6 ∧ r.txHold = 1 then 0 else r.txCode } := by
  rw [r.txSlot_frame, r.txSlot_driveLow, r.txSlot_txCur, r.txSlot_txHold, r.txSlot_txCode]

/-- TXSLOT runs in transmitting mode with a bit left, and only then (R143). -/
theorem Regs.slotPart_cases (r : Regs) :
    ((r.txActive = true ∧ r.txCur.toNat < 7) ∧ r.slotPart = r.txSlot) ∨
    (¬ (r.txActive = true ∧ r.txCur.toNat < 7) ∧ r.slotPart = r) := by
  by_cases h : r.txActive = true ∧ r.txCur.toNat < 7
  · exact .inl ⟨h, Regs.slotPart_of_slot h⟩
  · exact .inr ⟨h, Regs.slotPart_of_none h⟩

/-! ## The bits that KEYSAMPLE and BITSHIFT take -/

/-- KEYSAMPLE takes the inverted second sample at bit `7 - POS` (R120). -/
theorem Regs.keySample_getLsbD {r : Regs} (hp : r.pos.toNat ≤ 7) (d : Level) {i : Nat} (hi : i < 7) :
    (r.keySample d).keyAcc.getLsbD i = (r.keyAcc.getLsbD i || (decide (i + r.pos.toNat = 7) && !d)) := by
  rw [Regs.keySample_keyAcc, BitVec.getLsbD_or, placeBit_getLsbD _ _ _ _ hi,
    decide_eq_decide.mpr (keyPlace_iff r.pos hp i)]

/-- BITSHIFT takes the data level at bit `15 - POS` (R122, R71). -/
theorem Regs.bitShift_stAcc_getLsbD {r : Regs} (hp : r.pos.toNat ≤ 15) (d a : Level) {i : Nat}
    (hi : i < 16) : (r.bitShift d a).stAcc.getLsbD i =
      (r.stAcc.getLsbD i || (decide (i + r.pos.toNat = 15) && d)) := by
  rw [Regs.bitShift_stAcc, BitVec.getLsbD_or, placeBit_getLsbD _ _ _ _ hi,
    decide_eq_decide.mpr (wordPlace_iff r.pos hp i)]

/-- BITSHIFT takes the auxiliary level at bit `15 - POS` (R122, R72). -/
theorem Regs.bitShift_auxAcc_getLsbD {r : Regs} (hp : r.pos.toNat ≤ 15) (d a : Level) {i : Nat}
    (hi : i < 16) : (r.bitShift d a).auxAcc.getLsbD i =
      (r.auxAcc.getLsbD i || (decide (i + r.pos.toNat = 15) && a)) := by
  rw [Regs.bitShift_auxAcc, BitVec.getLsbD_or, placeBit_getLsbD _ _ _ _ hi,
    decide_eq_decide.mpr (wordPlace_iff r.pos hp i)]

/-! ## The gap test -/

/-- The registers after CLEARDONE and the gap test: those that the edge branch of a TICK starts from (R100,
steps 1 to 3). -/
def Regs.entry (x : LineSample) (r : Regs) : Regs := r.clearDone.gapTest x

theorem Regs.entry_of_gap {x : LineSample} {r : Regs} (hc : x.clk = true) (h : r.gapAt x.now) :
    r.entry x = r.clearDone.resync :=
  Regs.gapTest_of_gap hc h

theorem Regs.entry_of_no_gap {x : LineSample} {r : Regs} (h : x.clk = false ∨ ¬ r.gapAt x.now) :
    r.entry x = r.clearDone :=
  Regs.gapTest_of_no_gap h

/-- The two cases of the gap test. -/
theorem Regs.entry_cases (x : LineSample) (r : Regs) :
    (x.clk = true ∧ r.gapAt x.now ∧ r.entry x = r.clearDone.resync) ∨
    ((x.clk = false ∨ ¬ r.gapAt x.now) ∧ r.entry x = r.clearDone) := by
  by_cases h : x.clk = true ∧ r.gapAt x.now
  · exact .inl ⟨h.1, h.2, Regs.entry_of_gap h.1 h.2⟩
  · have h' : x.clk = false ∨ ¬ r.gapAt x.now := by
      rwa [not_and_or, Bool.not_eq_true] at h
    exact .inr ⟨h', Regs.entry_of_no_gap h'⟩

/-! ## A bit edge -/

/-- A rising edge of slots 0 to 14 of a synchronized frame: every step of R109 but COMPLETE and
INTERPRET. -/
def Regs.bitEdge (x : LineSample) (r : Regs) : Regs :=
  (((r.stamp x.now).shiftPart x).release.endPart).slotPart

/-- `r` with the registers of the transmitter taken from `v`. -/
def Regs.withTransmitter (r v : Regs) : Regs := { r with
  txCode := v.txCode, txHold := v.txHold, txCur := v.txCur, txActive := v.txActive
  quietCnt := v.quietCnt, driveLow := v.driveLow }

theorem Regs.shiftPart_receive (x : LineSample) (r : Regs) :
    r.shiftPart x = (r.bitShift x.data x.aux).withTransmitter (r.shiftPart x) := by
  unfold Regs.shiftPart Regs.firstBit
  split <;> (try split) <;> rfl

theorem Regs.endPart_receive (r : Regs) : r.endPart = r.withTransmitter r.endPart := by
  unfold Regs.endPart
  split <;> rfl

theorem Regs.slotPart_receive (r : Regs) : r.slotPart = r.withTransmitter r.slotPart := by
  rcases r.slotPart_cases with ⟨-, h⟩ | ⟨-, h⟩
  · rw [h, Regs.txSlot_eq]; rfl
  · rw [h]; rfl

/-- FIRSTBIT to TXSLOT write registers of the transmitter only, so that the rest of a bit edge is STAMP and
BITSHIFT (R109). -/
theorem Regs.bitEdge_receive (x : LineSample) (r : Regs) :
    ∃ v, r.bitEdge x = ((r.stamp x.now).bitShift x.data x.aux).withTransmitter v := by
  refine ⟨r.bitEdge x, ?_⟩
  unfold Regs.bitEdge
  rw [Regs.slotPart_receive, Regs.endPart_receive, Regs.shiftPart_receive]
  rfl

@[simp] theorem Regs.bitEdge_pos (x : LineSample) (r : Regs) : (r.bitEdge x).pos = r.pos + 1 := by
  obtain ⟨v, hv⟩ := r.bitEdge_receive x
  rw [hv]
  rfl

@[simp] theorem Regs.bitEdge_sync (x : LineSample) (r : Regs) : (r.bitEdge x).sync = r.sync := by
  obtain ⟨v, hv⟩ := r.bitEdge_receive x
  rw [hv]
  rfl

@[simp] theorem Regs.bitEdge_frameDone (x : LineSample) (r : Regs) :
    (r.bitEdge x).frameDone = r.frameDone := by
  obtain ⟨v, hv⟩ := r.bitEdge_receive x
  rw [hv]
  rfl

/-- The transmit side of a bit edge, by the position it is taken with: the first bit, a position with a
slot, and one from which transmitting mode ends (R140, R142, R143). -/
theorem Regs.bitEdge_cases (x : LineSample) (r : Regs) :
    (r.pos = 0 ∧ r.bitEdge x =
      ((r.stamp x.now).bitShift x.data x.aux).firstBit.release.slotPart) ∨
    (r.pos ≠ 0 ∧ (r.pos + 1).toNat < 8 ∧ r.bitEdge x =
      ((r.stamp x.now).bitShift x.data x.aux).release.slotPart) ∨
    (8 ≤ (r.pos + 1).toNat ∧ r.bitEdge x =
      ((r.stamp x.now).bitShift x.data x.aux).release.txEnd) := by
  unfold Regs.bitEdge
  by_cases h0 : r.pos = 0
  · refine .inl ⟨h0, ?_⟩
    rw [Regs.shiftPart_of_first (r := r.stamp x.now) h0, Regs.endPart_of_early (by simp [h0])]
  · rw [Regs.shiftPart_of_later (r := r.stamp x.now) h0]
    by_cases h8 : (r.pos + 1).toNat < 8
    · exact .inr (.inl ⟨h0, h8, by rw [Regs.endPart_of_early h8]⟩)
    · have hlate := Nat.le_of_not_lt h8
      refine .inr (.inr ⟨hlate, ?_⟩)
      rw [Regs.endPart_of_late hlate, Regs.slotPart_of_none (by simp)]

/-! ## The shapes of a TICK -/

/-- The rising edge of slot 15 of a synchronized frame (R109, R123). -/
def Regs.lastEdge (p : Params) (x : LineSample) (r : Regs) : Regs :=
  ((((r.stamp x.now).bitShift x.data x.aux).release.txEnd).complete p).interpret

theorem Regs.riseBranch_of_bit {p : Params} {x : LineSample} {r : Regs} (hs : r.sync = true)
    (hp : r.pos ≠ 15) : r.riseBranch p x = r.bitEdge x := by
  rw [Regs.riseBranch, if_pos hs]
  refine Regs.completePart_of_not_end ?_
  change (r.bitEdge x).pos.toNat ≠ 16
  rw [Regs.bitEdge_pos]
  exact fun h => hp ((pos_succ_eq_sixteen _).mp h)

theorem Regs.riseBranch_of_last {p : Params} {x : LineSample} {r : Regs} (hs : r.sync = true)
    (hp : r.pos = 15) : r.riseBranch p x = r.lastEdge p x := by
  rcases Regs.riseBranch_cases p x r hs (by simp [hp]) with ⟨h, -⟩ | ⟨-, h, -⟩ | ⟨-, h, -⟩ | ⟨-, h⟩
  · simp [hp] at h
  · simp [hp] at h
  · simp [hp] at h
  · exact h

section
variable {p : Params} {x : LineSample} {r : Regs}

theorem Regs.tick_low (he : r.edgeMem = false) (hc : x.clk = false) :
    r.tick p x = r.clearDone.saveClk false := by
  simpa [he, hc] using r.tick_cases p x

theorem Regs.tick_fall (he : r.edgeMem = true) (hc : x.clk = false) :
    r.tick p x = (r.clearDone.fallBranch x).saveClk false := by
  simpa [he, hc] using r.tick_cases p x

theorem Regs.tick_high (he : r.edgeMem = true) (hc : x.clk = true) :
    r.tick p x = (r.entry x).saveClk true := by
  simpa [he, hc, Regs.entry] using r.tick_cases p x

theorem Regs.tick_rise (he : r.edgeMem = false) (hc : x.clk = true) :
    r.tick p x = ((r.entry x).riseBranch p x).saveClk true := by
  simpa [he, hc, Regs.entry] using r.tick_cases p x

theorem Regs.tick_unsync (he : r.edgeMem = false) (hc : x.clk = true) (hgap : ¬ r.gapAt x.now)
    (hs : r.sync = false) : r.tick p x = (r.clearDone.stamp x.now).release.saveClk true := by
  rw [Regs.tick_rise he hc, Regs.entry_of_no_gap (.inr hgap), Regs.riseBranch_unsync p x r.clearDone hs]

theorem Regs.tick_bit (he : r.edgeMem = false) (hc : x.clk = true) (hs : (r.entry x).sync = true)
    (hp : (r.entry x).pos ≠ 15) : r.tick p x = ((r.entry x).bitEdge x).saveClk true := by
  rw [Regs.tick_rise he hc, Regs.riseBranch_of_bit hs hp]

theorem Regs.tick_last (he : r.edgeMem = false) (hc : x.clk = true) (hgap : ¬ r.gapAt x.now)
    (hs : r.sync = true) (hp : r.pos = 15) : r.tick p x = (r.clearDone.lastEdge p x).saveClk true := by
  rw [Regs.tick_rise he hc, Regs.entry_of_no_gap (.inr hgap),
    Regs.riseBranch_of_last (r := r.clearDone) hs hp]

end

/-- What a TICK can make of the registers, with what holds of them before it. -/
inductive Regs.TickShape (p : Params) (x : LineSample) (r : Regs) : Regs → Prop
  /-- The clock stays low (R106). -/
  | low (hedge : r.edgeMem = false) (hclk : x.clk = false) : TickShape p x r (r.clearDone.saveClk false)
  /-- A falling edge (R108). -/
  | fall (hedge : r.edgeMem = true) (hclk : x.clk = false) :
      TickShape p x r ((r.clearDone.fallBranch x).saveClk false)
  /-- The clock stays high (R107). -/
  | high (hedge : r.edgeMem = true) (hclk : x.clk = true) : TickShape p x r ((r.entry x).saveClk true)
  /-- A rising edge without synchronization (R109). -/
  | unsync (hedge : r.edgeMem = false) (hclk : x.clk = true) (hgap : ¬ r.gapAt x.now)
      (hsync : r.sync = false) : TickShape p x r ((r.clearDone.stamp x.now).release.saveClk true)
  /-- A rising edge of slots 0 to 14 of a synchronized frame (R109). -/
  | bit (hedge : r.edgeMem = false) (hclk : x.clk = true) (hsync : (r.entry x).sync = true)
      (hpos : (r.entry x).pos ≠ 15) : TickShape p x r (((r.entry x).bitEdge x).saveClk true)
  /-- The rising edge of slot 15 (R109, R123). -/
  | last (hedge : r.edgeMem = false) (hclk : x.clk = true) (hgap : ¬ r.gapAt x.now)
      (hsync : r.sync = true) (hpos : r.pos = 15) :
      TickShape p x r ((r.clearDone.lastEdge p x).saveClk true)

/-- A TICK has one of these shapes. -/
theorem Regs.tick_shape (p : Params) (x : LineSample) (r : Regs) : Regs.TickShape p x r (r.tick p x) := by
  cases he : r.edgeMem <;> cases hc : x.clk
  · rw [Regs.tick_low he hc]; exact .low he hc
  · cases hs : (r.entry x).sync with
    | false =>
      rcases r.entry_cases x with ⟨-, -, hq⟩ | ⟨hno, hq⟩ <;> rw [hq] at hs
      · nomatch hs
      · have hgap : ¬ r.gapAt x.now := hno.resolve_left (by simp [hc])
        rw [Regs.tick_unsync he hc hgap hs]
        exact .unsync he hc hgap hs
    | true =>
      by_cases hp : (r.entry x).pos = 15
      · rcases r.entry_cases x with ⟨-, -, hq⟩ | ⟨hno, hq⟩ <;> rw [hq] at hs hp
        · nomatch hp
        · have hgap : ¬ r.gapAt x.now := hno.resolve_left (by simp [hc])
          rw [Regs.tick_last he hc hgap hs hp]
          exact .last he hc hgap hs hp
      · rw [Regs.tick_bit he hc hs hp]
        exact .bit he hc hs hp
  · rw [Regs.tick_fall he hc]; exact .fall he hc
  · rw [Regs.tick_high he hc]; exact .high he hc

end Sys2Proof.Machine

/-! PROOFS. Proofs/Invariants.lean: what every step keeps (10_state.md R33, 44_interpreter.md R201, R202): each
sub-operation keeps the invariant or says what of it is left to restore, and the shapes of a TICK put them
together. -/

namespace Sys2Proof.Machine

/-! ## The control invariants (R33 items 1 to 5, 7, 9 to 11) -/

theorem Regs.Inv.reset : Regs.reset.Inv where
  pos_le := by decide
  unsync_pos _ := rfl
  unsync_drive _ := rfl
  drive_active h := nomatch h
  pending_hold h := absurd rfl h
  idle_hold _ := rfl
  slots_pending h := nomatch h
  late_inactive _ := rfl
  unsync_inactive _ := rfl

section
variable {r : Regs}

theorem Regs.Inv.clearDone (h : r.Inv) : r.clearDone.Inv := { h with }

theorem Regs.Inv.saveClk (h : r.Inv) (c : Level) : (r.saveClk c).Inv := { h with }

theorem Regs.Inv.keySample (h : r.Inv) (d : Level) : (r.keySample d).Inv := { h with }

theorem Regs.Inv.stamp (h : r.Inv) (t : Timestamp) : (r.stamp t).Inv := { h with }

theorem Regs.Inv.resync (h : r.Inv) : r.resync.Inv := { h with
  pos_le := by simp
  unsync_pos := fun _ => rfl
  unsync_drive := fun hs => nomatch hs
  late_inactive := by simp
  unsync_inactive := fun hs => nomatch hs }

theorem Regs.Inv.release (h : r.Inv) : r.release.Inv := { h with
  unsync_drive := fun _ => rfl
  drive_active := fun hd => nomatch hd }

theorem Regs.Inv.entry (h : r.Inv) (x : LineSample) : (r.entry x).Inv := by
  rcases r.entry_cases x with ⟨-, -, hq⟩ | ⟨-, hq⟩ <;> rw [hq]
  · exact h.clearDone.resync
  · exact h.clearDone

theorem Regs.Inv.fallBranch (h : r.Inv) (x : LineSample) : (r.fallBranch x).Inv := by
  rcases Regs.fallBranch_cases x r with ⟨-, -, hf⟩ | ⟨-, hf⟩ <;> rw [hf]
  · exact h.keySample _
  · exact h

/-- BITSHIFT keeps them while the next position is one with a slot (R122). -/
theorem Regs.Inv.bitShift (h : r.Inv) (hs : r.sync = true) (hp : (r.pos + 1).toNat < 8) (d a : Level) :
    (r.bitShift d a).Inv := { h with
  pos_le := by rw [Regs.bitShift_pos]; omega
  unsync_pos := fun hu => by simp [hs] at hu
  late_inactive := fun hl => by rw [Regs.bitShift_pos] at hl; omega }

/-- FIRSTBIT keeps them in a frame whose position has a slot (R140). -/
theorem Regs.Inv.firstBit (h : r.Inv) (hs : r.sync = true) (hp : r.pos.toNat < 8) : r.firstBit.Inv := by
  by_cases hc : r.txCode = 0
  · rw [Regs.firstBit_of_idle r hc]
    exact { h with }
  · rw [Regs.firstBit_of_pending r hc]
    exact { h with
      drive_active := fun _ => rfl
      slots_pending := fun _ _ => hc
      late_inactive := fun hl => absurd hp (not_lt.mpr hl)
      unsync_inactive := fun hu => by simp [hs] at hu }

/-- What TXSLOT does to the request: the last hold-cycle ends it, an earlier one is counted down with the
seventh bit, and before the seventh bit it stays (R144). -/
theorem Regs.txSlot_request_cases (r : Regs) :
    (r.txCur.toNat = 6 ∧ r.txHold = 1 ∧ r.txSlot.txCode = 0 ∧ r.txSlot.txHold = 0) ∨
    (r.txCur.toNat = 6 ∧ r.txHold ≠ 1 ∧ r.txSlot.txCode = r.txCode ∧ r.txSlot.txHold = r.txHold - 1) ∨
    (r.txCur.toNat ≠ 6 ∧ r.txSlot.txCode = r.txCode ∧ r.txSlot.txHold = r.txHold) := by
  by_cases hc : r.txCur.toNat = 6
  · by_cases hh : r.txHold = 1
    · exact .inl ⟨hc, hh, by simp [hc, hh], by simp [hc, hh]⟩
    · exact .inr (.inl ⟨hc, hh, by rw [r.txSlot_txCode, if_neg (hh ·.2)], by simp [hc]⟩)
  · exact .inr (.inr ⟨hc, by simp [hc], by simp [hc]⟩)

theorem txCur_succ {c : BitVec 3} (h : c.toNat < 7) : (c + 1).toNat = c.toNat + 1 := by
  revert c; decide

/-- TXSLOT keeps them: the hold is counted down with the seventh bit only, and the request goes with the
last of it (R143, R144). -/
theorem Regs.Inv.txSlot (h : r.Inv) (ha : r.txActive = true) (hc : r.txCur.toNat < 7) : r.txSlot.Inv := by
  have hcode : r.txCode ≠ 0 := h.slots_pending ha hc
  have hsync : r.sync = true := by
    cases hs : r.sync
    · rw [h.unsync_inactive hs] at ha; nomatch ha
    · rfl
  constructor
  case pos_le => rw [Regs.txSlot_pos]; exact h.pos_le
  case unsync_pos => rw [Regs.txSlot_sync, hsync]; exact fun hu => nomatch hu
  case unsync_drive => rw [Regs.txSlot_sync, hsync]; exact fun hu => nomatch hu
  case drive_active => rw [Regs.txSlot_txActive]; exact fun _ => ha
  case pending_hold =>
    rcases r.txSlot_request_cases with ⟨-, -, h0, -⟩ | ⟨-, h1, -, hh⟩ | ⟨-, hk, hh⟩
    · exact fun hne => absurd h0 hne
    · exact fun _ => by rw [hh, ne_eq, txHold_pred_eq_zero]; exact h1
    · rw [hk, hh]; exact h.pending_hold
  case idle_hold =>
    rcases r.txSlot_request_cases with ⟨-, -, -, hh⟩ | ⟨-, -, hk, -⟩ | ⟨-, hk, hh⟩
    · exact fun _ => hh
    · exact fun h0 => absurd (hk ▸ h0) hcode
    · rw [hk, hh]; exact h.idle_hold
  case slots_pending =>
    rw [Regs.txSlot_txCur, txCur_succ hc]
    rcases r.txSlot_request_cases with ⟨h6, -⟩ | ⟨h6, -⟩ | ⟨-, hk, -⟩
    · intro _ hlt; omega
    · intro _ hlt; omega
    · rw [hk]; exact fun _ _ => hcode
  case late_inactive => rw [Regs.txSlot_pos, Regs.txSlot_txActive]; exact h.late_inactive
  case unsync_inactive => rw [Regs.txSlot_sync, hsync]; exact fun hu => nomatch hu

theorem Regs.Inv.slotPart (h : r.Inv) : r.slotPart.Inv := by
  rcases r.slotPart_cases with ⟨⟨ha, hc⟩, hslot⟩ | ⟨-, hslot⟩ <;> rw [hslot]
  · exact h.txSlot ha hc
  · exact h

/-- A bit edge from slot 7 on: the line released and transmitting mode ended, so nothing of the transmitter
is tied to the position any more (R141, R142). -/
theorem Regs.Inv.lateEdge (h : r.Inv) (hs : r.sync = true) (hp : (r.pos + 1).toNat ≤ 15) (d a : Level) :
    (r.bitShift d a).release.txEnd.Inv := { h with
  pos_le := hp
  unsync_pos := fun hu => by simp [hs] at hu
  unsync_drive := fun _ => rfl
  drive_active := fun hd => nomatch hd
  slots_pending := fun ha => nomatch ha
  late_inactive := fun _ => rfl
  unsync_inactive := fun _ => rfl }

/-- A bit edge keeps them: position 0 with FIRSTBIT, a position with a slot, or a later one. -/
theorem Regs.Inv.bitEdge (h : r.Inv) (hs : r.sync = true) (hp : r.pos ≠ 15) (x : LineSample) :
    (r.bitEdge x).Inv := by
  have hstamp := h.stamp x.now
  rcases r.bitEdge_cases x with ⟨h0, he⟩ | ⟨-, h8, he⟩ | ⟨-, he⟩ <;> rw [he]
  · have hshift := hstamp.bitShift hs (by simp [h0]) x.data x.aux
    exact (hshift.firstBit hs (by simp [h0])).release.slotPart
  · exact (hstamp.bitShift hs h8 x.data x.aux).release.slotPart
  · have hsucc := pos_succ h.pos_le
    have h16 := (pos_succ_eq_sixteen r.pos).not.mpr hp
    have hle := h.pos_le
    exact hstamp.lateEdge hs (show (r.pos + 1).toNat ≤ 15 by omega) x.data x.aux

theorem Regs.Inv.interpret (h : r.Inv) : r.interpret.Inv := by
  rw [Regs.interpret_eq]
  exact { h with }

/-- The last edge keeps them: COMPLETE drops synchronization with the position at 0, the line released and
transmitting mode ended (R123). -/
theorem Regs.Inv.lastEdge (h : r.Inv) (p : Params) (x : LineSample) : (r.lastEdge p x).Inv := by
  refine Regs.Inv.interpret { h with
    pos_le := ?_
    unsync_pos := fun _ => rfl
    unsync_drive := fun _ => rfl
    drive_active := fun hd => nomatch hd
    slots_pending := fun ha => nomatch ha
    late_inactive := fun _ => rfl
    unsync_inactive := fun _ => rfl }
  rw [Regs.complete_pos]
  decide

/-- A TICK keeps the control invariants. -/
theorem Regs.Inv.tick (h : r.Inv) (p : Params) (x : LineSample) : (r.tick p x).Inv := by
  have hshape := r.tick_shape p x
  generalize r.tick p x = r' at hshape ⊢
  cases hshape with
  | low => exact h.clearDone.saveClk _
  | fall => exact (h.clearDone.fallBranch x).saveClk _
  | high => exact (h.entry x).saveClk _
  | unsync => exact (h.clearDone.stamp _).release.saveClk _
  | bit _ _ hsync hpos => exact ((h.entry x).bitEdge hsync hpos x).saveClk _
  | last => exact (h.clearDone.lastEdge p x).saveClk _

/-- An accepted request has a code and a hold count, and its cursor before the first bit (R161). -/
theorem Regs.Inv.request (h : r.Inv) {p : Params} {sym : Symbol} {n : Nat} (hn : n < 2 ^ 8)
    (ha : accepts p sym n r = true) : (r.request p sym n).Inv := by
  obtain ⟨hcode, -, -, hne⟩ := (accepts_iff p sym n r).mp ha
  have hhold : BitVec.ofNat 8 n ≠ 0 := by
    intro h0
    have := congrArg BitVec.toNat h0
    rw [BitVec.toNat_ofNat, Nat.mod_eq_of_lt hn] at this
    exact hne this
  exact { h with
    pending_hold := fun _ => hhold
    idle_hold := fun h0 => absurd h0 hcode
    slots_pending := fun _ _ => hcode }

end

/-- Settles O57: nothing, a TICK, an accepted request and RESET each keep the control invariants. -/
theorem stepKeepsTheControlInvariants : Obligations.StepKeepsTheControlInvariants := by
  intro s t h hstep
  rcases step_regs_cases hstep with ht | ⟨x, ht⟩ | ⟨sym, n, hn, ha, ht⟩ | ⟨ht, -⟩ <;> rw [ht]
  · exact h
  · exact h.tick _ x
  · exact h.request hn ha
  · exact Regs.Inv.reset

/-! ## The bits still to come (R33 item 8) -/

/-- Without synchronization no bit is to come. -/
theorem Regs.Unwritten.of_unsync {r : Regs} (hs : r.sync = false) : r.Unwritten where
  status_clear h := by simp [hs] at h
  aux_clear h := by simp [hs] at h
  key_clear h := by simp [hs] at h
  key_coming h := by simp [hs] at h

section
variable {r : Regs}

theorem Regs.Unwritten.clearDone (h : r.Unwritten) : r.clearDone.Unwritten := { h with }

theorem Regs.Unwritten.stamp (h : r.Unwritten) (t : Timestamp) : (r.stamp t).Unwritten := { h with }

/-- With the clock low the keypad bit of the present position is past. -/
theorem Regs.Unwritten.saveLow (h : r.Unwritten) : (r.saveClk false).Unwritten := { h with
  key_coming := fun _ he => nomatch he }

theorem Regs.Unwritten.saveHigh (h : r.Unwritten) (he : r.edgeMem = true) : (r.saveClk true).Unwritten := {
  h with key_coming := fun hs _ => h.key_coming hs he }

/-- RESYNC leaves no bit written. -/
theorem Regs.Unwritten.resync (r : Regs) : r.resync.Unwritten where
  status_clear _ i _ := by simp
  aux_clear _ i _ := by simp
  key_clear _ i _ := by simp
  key_coming _ _ i _ := by simp

theorem Regs.Unwritten.entry (h : r.Unwritten) (x : LineSample) : (r.entry x).Unwritten := by
  rcases r.entry_cases x with ⟨-, -, hq⟩ | ⟨-, hq⟩ <;> rw [hq]
  · exact .resync _
  · exact h.clearDone

/-- KEYSAMPLE writes the bit of the present position, which is none of those below it. -/
theorem Regs.Unwritten.sampleLow (h : r.Unwritten) (hp : r.pos.toNat ≤ 7) (d : Level) :
    ((r.keySample d).saveClk false).Unwritten := { h with
  key_clear := by
    intro hs i hi
    change (r.keySample d).keyAcc.getLsbD i = false
    have hi' : i + r.pos.toNat < 7 := hi
    have hold : r.keyAcc.getLsbD i = false := h.key_clear hs i hi'
    have hne : i + r.pos.toNat ≠ 7 := by omega
    rw [Regs.keySample_getLsbD hp d (by omega), hold, decide_eq_false hne, Bool.false_and, Bool.or_false]
  key_coming := fun _ he => nomatch he }

theorem Regs.Unwritten.fall (h : r.Unwritten) (x : LineSample) :
    ((r.fallBranch x).saveClk false).Unwritten := by
  rcases Regs.fallBranch_cases x r with ⟨-, hp, hf⟩ | ⟨-, hf⟩ <;> rw [hf]
  · exact h.sampleLow hp _
  · exact h.saveLow

/-- BITSHIFT writes the two bits of the present position and moves on, so that those of the next position
are the first still to come. -/
theorem Regs.Unwritten.shiftHigh (h : r.Unwritten) (hp : r.pos.toNat ≤ 14) (d a : Level) :
    ((r.bitShift d a).saveClk true).Unwritten := by
  have hsucc : ((r.bitShift d a).saveClk true).pos.toNat = r.pos.toNat + 1 := pos_succ (by omega)
  constructor
  case status_clear =>
    intro hs i hi
    rw [hsucc] at hi
    change (r.bitShift d a).stAcc.getLsbD i = false
    have hold := h.status_clear hs i (by omega)
    have hne : i + r.pos.toNat ≠ 15 := by omega
    rw [Regs.bitShift_stAcc_getLsbD (by omega) d a (by omega), hold, decide_eq_false hne, Bool.false_and,
      Bool.or_false]
  case aux_clear =>
    intro hs i hi
    rw [hsucc] at hi
    change (r.bitShift d a).auxAcc.getLsbD i = false
    have hold := h.aux_clear hs i (by omega)
    have hne : i + r.pos.toNat ≠ 15 := by omega
    rw [Regs.bitShift_auxAcc_getLsbD (by omega) d a (by omega), hold, decide_eq_false hne, Bool.false_and,
      Bool.or_false]
  case key_clear =>
    intro hs i hi
    rw [hsucc] at hi
    exact h.key_clear hs i (by omega)
  case key_coming =>
    intro hs _ i hi
    rw [hsucc] at hi
    exact h.key_clear hs i (by omega)

theorem Regs.Unwritten.bitEdge (h : r.Unwritten) (hle : r.pos.toNat ≤ 15) (hp : r.pos ≠ 15)
    (x : LineSample) : ((r.bitEdge x).saveClk true).Unwritten := by
  have hne : r.pos.toNat ≠ 15 := fun e => hp (BitVec.eq_of_toNat_eq e)
  obtain ⟨v, hv⟩ := r.bitEdge_receive x
  rw [hv]
  exact { (h.stamp x.now).shiftHigh (show r.pos.toNat ≤ 14 by omega) x.data x.aux with }

/-- A TICK keeps the bits still to come unwritten. -/
theorem Regs.Unwritten.tick (h : r.Unwritten) (hinv : r.Inv) (p : Params) (x : LineSample) :
    (r.tick p x).Unwritten := by
  have hshape := r.tick_shape p x
  generalize r.tick p x = r' at hshape ⊢
  cases hshape with
  | low => exact h.clearDone.saveLow
  | fall => exact h.clearDone.fall x
  | high hedge => exact (h.entry x).saveHigh (by simp [Regs.entry, hedge])
  | unsync _ _ _ hsync => exact .of_unsync hsync
  | bit _ _ _ hpos => exact (h.entry x).bitEdge (hinv.entry x).pos_le hpos x
  | last => exact .of_unsync (by simp [Regs.lastEdge])

theorem Regs.Unwritten.request (h : r.Unwritten) (p : Params) (sym : Symbol) (n : Nat) :
    (r.request p sym n).Unwritten := { h with }

end

/-- Settles O58: a TICK writes bits of the present position only, and what else a step does leaves the
accumulators, the position and the clock alone or drops synchronization. -/
theorem stepKeepsComingBitsUnwritten : Obligations.StepKeepsComingBitsUnwritten := by
  intro s t hinv h hstep
  rcases step_regs_cases hstep with ht | ⟨x, ht⟩ | ⟨sym, n, -, -, ht⟩ | ⟨ht, -⟩ <;> rw [ht]
  · exact h
  · exact h.tick hinv _ x
  · exact h.request _ sym n
  · exact .of_unsync rfl

/-! ## The derived registers (R124, R201, R202) -/

theorem Regs.Derived.reset (p : Params) : Regs.reset.Derived p where
  changed_iff := by simp [Regs.reset]
  pressed_eq := rfl
  released_eq := by simp [Regs.reset]
  pressCnt_iff := by simp [Regs.reset]
  beepCnt_iff := by simp [Regs.reset]

section
variable {p : Params} {r : Regs}

theorem Regs.Derived.entry (h : r.Derived p) (x : LineSample) : (r.entry x).Derived p := by
  rcases r.entry_cases x with ⟨-, -, hq⟩ | ⟨-, hq⟩ <;> rw [hq] <;> exact { h with }

theorem Regs.Derived.fallBranch (h : r.Derived p) (x : LineSample) : (r.fallBranch x).Derived p := by
  rcases Regs.fallBranch_cases x r with ⟨-, -, hf⟩ | ⟨-, hf⟩ <;> rw [hf] <;> exact { h with }

theorem Regs.Derived.bitEdge (h : r.Derived p) (x : LineSample) : (r.bitEdge x).Derived p := by
  obtain ⟨v, hv⟩ := r.bitEdge_receive x
  rw [hv]
  exact { h with }

theorem Regs.Derived.saveClk (h : r.Derived p) (c : Level) : (r.saveClk c).Derived p := { h with }

/-- COMPLETE and INTERPRET make the derived registers true to the snapshots they publish; the beep counter
was true to the mask before only where it is counted on (R124, R201, R202). -/
theorem Regs.Derived.lastEdge (p : Params) (x : LineSample) (r : Regs) : (r.lastEdge p x).Derived p := by
  unfold Regs.lastEdge
  generalize ((r.stamp x.now).bitShift x.data x.aux).release.txEnd = q
  constructor
  case changed_iff => simp
  case pressed_eq => simp
  case released_eq => simp
  case pressCnt_iff =>
    rw [Regs.interpret_pressCnt, Regs.interpret_keyAvail, Regs.complete_keyAvail]
    split
    · next h0 => exact iff_of_false (not_not.mpr rfl) (not_not.mpr h0)
    · next hne =>
      refine iff_of_true ?_ hne
      split
      · exact satInc_ne_zero _
      · decide
  case beepCnt_iff =>
    rw [Regs.interpret_beepCnt, Regs.complete_beepCnt, Regs.interpret_stAvail, Regs.complete_stAvail]
    split
    · next h0 => exact iff_of_false (not_not.mpr rfl) (not_not.mpr h0)
    · next hne => exact iff_of_true (satInc_ne_zero _) hne

/-- A TICK keeps the derived registers true: only COMPLETE changes a snapshot, with INTERPRET after it. -/
theorem Regs.Derived.tick (h : r.Derived p) (x : LineSample) : (r.tick p x).Derived p := by
  have hshape := r.tick_shape p x
  have hclear : r.clearDone.Derived p := { h with }
  generalize r.tick p x = r' at hshape ⊢
  cases hshape with
  | low => exact hclear.saveClk _
  | fall => exact (hclear.fallBranch x).saveClk _
  | high => exact (h.entry x).saveClk _
  | unsync => exact { h with }
  | bit => exact ((h.entry x).bitEdge x).saveClk _
  | last => exact (Regs.Derived.lastEdge p x _).saveClk _

theorem Regs.Derived.request (h : r.Derived p) (sym : Symbol) (n : Nat) :
    (r.request p sym n).Derived p := { h with }

end

/-- Settles O59: a TICK changes the snapshots with their derived registers or neither, and a request and
RESET leave or clear both. -/
theorem stepKeepsDerivedRegistersTrue : Obligations.StepKeepsDerivedRegistersTrue := by
  intro s t h hstep
  rcases step_regs_cases hstep with ht | ⟨x, ht⟩ | ⟨sym, n, -, -, ht⟩ | ⟨ht, -⟩ <;> rw [ht]
  · exact h
  · exact h.tick x
  · exact h.request sym n
  · exact .reset _

/-! ## The pending request -/

/-- TXSLOT takes a pending request away only with the seventh bit of its last hold-cycle (R144). -/
theorem Regs.slotPart_txCode_cases (r : Regs) : r.slotPart.txCode = r.txCode ∨
    (r.slotPart.txCode = 0 ∧ r.txActive = true ∧ r.txCur.toNat = 6 ∧ r.txHold = 1) := by
  rcases r.slotPart_cases with ⟨⟨ha, -⟩, h⟩ | ⟨-, h⟩ <;> rw [h]
  · rcases r.txSlot_request_cases with ⟨hc, hh, h0, -⟩ | ⟨-, -, hk, -⟩ | ⟨-, hk, -⟩
    · exact .inr ⟨h0, ha, hc, hh⟩
    · exact .inl hk
    · exact .inl hk
  · exact .inl rfl

/-- FIRSTBIT sets the cursor before the first bit, so that a frame's first edge counts no hold down. -/
theorem Regs.bitEdge_txCode_cases (x : LineSample) (r : Regs) : (r.bitEdge x).txCode = r.txCode ∨
    ((r.bitEdge x).txCode = 0 ∧ r.txActive = true ∧ r.txCur.toNat = 6 ∧ r.txHold = 1) := by
  rcases r.bitEdge_cases x with ⟨-, h⟩ | ⟨-, -, h⟩ | ⟨-, h⟩ <;> rw [h]
  · have hslot := ((r.stamp x.now).bitShift x.data x.aux).firstBit.release.slotPart_txCode_cases
    by_cases hc : ((r.stamp x.now).bitShift x.data x.aux).txCode = 0
    · rw [Regs.firstBit_of_idle _ hc] at hslot ⊢
      exact hslot
    · rw [Regs.firstBit_of_pending _ hc] at hslot ⊢
      exact hslot.imp_right fun ⟨_, _, hcur, _⟩ => absurd hcur (by decide : ¬ (0#3).toNat = 6)
  · exact ((r.stamp x.now).bitShift x.data x.aux).release.slotPart_txCode_cases
  · exact .inl rfl

/-- A TICK takes a pending request away only in the seventh slot of its last hold-cycle (R144). -/
theorem Regs.tick_txCode_cases (p : Params) (x : LineSample) (r : Regs) :
    (r.tick p x).txCode = r.txCode ∨
    ((r.tick p x).txCode = 0 ∧ r.txActive = true ∧ r.txCur.toNat = 6 ∧ r.txHold = 1) := by
  have hshape := r.tick_shape p x
  generalize r.tick p x = r' at hshape ⊢
  cases hshape with
  | low => exact .inl rfl
  | fall => rcases Regs.fallBranch_cases x r.clearDone with ⟨-, -, h⟩ | ⟨-, h⟩ <;> exact .inl (by simp [h])
  | high => exact .inl (by simp [Regs.entry])
  | unsync => exact .inl rfl
  | bit => simpa [Regs.entry] using (r.entry x).bitEdge_txCode_cases x
  | last => exact .inl (by simp [Regs.lastEdge])

/-- Settles O60: a TICK keeps the code or clears it, and SEND_KEY takes it from the table. -/
theorem stepKeepsThePendingCodeAKey : Obligations.StepKeepsThePendingCodeAKey := by
  intro s t h hstep
  unfold Regs.CodeInTable at h ⊢
  rcases step_regs_cases hstep with ht | ⟨x, ht⟩ | ⟨sym, n, -, -, ht⟩ | ⟨ht, -⟩ <;> rw [ht]
  · exact h
  · rcases s.regs.tick_txCode_cases Config.params x with hk | ⟨h0, -⟩
    · rw [hk]; exact h
    · exact .inl h0
  · rw [Regs.request_txCode]
    cases sym with
    | key k => exact .inr ⟨k, rfl⟩
    | other c => exact .inl rfl
  · exact .inl rfl

/-! ## The state after reset -/

/-- Settles O56, invariant by invariant. -/
theorem resetMeetsTheInvariants : Obligations.ResetMeetsTheInvariants :=
  ⟨.reset, .of_unsync rfl, .reset _, .inl rfl⟩

end Sys2Proof.Machine

/-! PROOFS. Proofs/Steps.lean: the events as steps of the machine (00_scope.md R8, 60_exceptions.md R230): which
operation a step runs, that it always comes to its end, and what the host's commands leave alone. -/

namespace Sys2Proof.Machine

/-! ## The step -/

/-- A step runs the operation decoded from the first event (R8). -/
theorem step_of_decode {s : State} {r : PortRecord} {rest : List PortRecord} {i : Instr}
    (hs : s.script = r :: rest) (hd : decode (readRecord s r) = .ok i) :
    step s = exec i { s with script := rest } := by
  unfold step
  rw [fetch_cons hs]
  dsimp only
  rw [hd]

/-- A record that is no event stops the step by name (R80). -/
theorem step_of_reject {s : State} {r : PortRecord} {rest : List PortRecord} {why : Reject}
    (hs : s.script = r :: rest) (hd : decode (readRecord s r) = .error why) :
    step s = .refused (.notAnEvent why) := by
  unfold step
  rw [fetch_cons hs]
  dsimp only
  rw [hd]

/-- With no event issued nothing happens (R59). -/
theorem step_of_nil {s : State} (hs : s.script = []) : step s = .next s := by
  unfold step
  rw [fetch_nil hs]

/-- Settles O6: the three clauses are the three ways a fetch and a decode can end. -/
theorem stepRunsTheDecodedEvent : Obligations.StepRunsTheDecodedEvent :=
  ⟨fun _ _ _ _ hs hd => step_of_decode hs hd, fun _ _ _ _ hs hd => step_of_reject hs hd,
    fun _ hs => step_of_nil hs⟩

/-- Each case of TICK runs the whole TICK with its clock level (R105). -/
theorem exec_tickCase (e clk data aux data2 : Level) (now : Timestamp) (s : State) :
    exec (tickCase e clk data aux data2 now) s = .next (s.tick ⟨clk, data, aux, data2, now⟩) := by
  cases e <;> cases clk <;> rfl

/-- Settles O7: the port reads bit `e` from the Edge Memory, and each of the four cases is the TICK. -/
theorem tickEventRunsTick : Obligations.TickEventRunsTick := by
  intro clk data aux data2 now s rest hs
  have hd : decode (readRecord s (encode (.tick clk data aux data2 now))) =
      .ok (tickCase s.regs.edgeMem clk data aux data2 now) := by
    rw [← decode_tickRecord, ← readTickRecord s.regs.edgeMem false]
    rfl
  rw [step_of_decode hs hd, exec_tickCase]
  rfl

/-! ## Queries -/

/-- The operations that ask the block a question: every one whose result is a bit, a symbol or a count
(30_encoding.md R77). -/
def isQuery : Instr → Bool
  | .qReady | .qFrameDone | .qChanged | .qPressed | .qReleased | .qPressCnt | .qBeepCnt | .qZoneLight _
  | .qStatusLight _ | .qBeep | .qPgm | .qBtn _ | .qArmed | .qArmedBypass | .qTrouble | .qFireLatched
  | .qZoneTripped _ | .qAnyTrippedArmed => true
  | _ => false

/-- A query with an admitted index puts an answer computed from the registers on the result output and does
nothing else (R57, R216). -/
theorem exec_query {i : Instr} (hi : isQuery i = true) (hwf : i.wf = true) :
    ∃ f : Regs → HostResult, ∀ s, exec i s = .next (s.answer (f s.regs)) := by
  cases i with
  | qReady => exact ⟨fun r => .bit (ready Config.params r), fun _ => rfl⟩
  | qFrameDone => exact ⟨fun r => .bit r.frameDone, exec_qFrameDone⟩
  | qChanged => exact ⟨fun r => .bit r.changed, exec_qChanged⟩
  | qPressed => exact ⟨fun r => .symbol (decodeKey Config.params r.pressed), exec_qPressed⟩
  | qReleased => exact ⟨fun r => .symbol (decodeKey Config.params r.released), exec_qReleased⟩
  | qPressCnt => exact ⟨fun r => .count r.pressCnt, exec_qPressCnt⟩
  | qBeepCnt => exact ⟨fun r => .count r.beepCnt, exec_qBeepCnt⟩
  | qBeep => exact ⟨fun r => .bit (statusField Config.params r .beep), fun _ => rfl⟩
  | qPgm => exact ⟨fun r => .bit (auxField Config.params r .pgm), fun _ => rfl⟩
  | qArmed => exact ⟨fun r => .bit (auxField Config.params r .armed), exec_qArmed⟩
  | qArmedBypass => exact ⟨fun r => .bit (auxField Config.params r .armedBypass), exec_qArmedBypass⟩
  | qTrouble => exact ⟨fun r => .bit (auxField Config.params r .trouble), exec_qTrouble⟩
  | qFireLatched => exact ⟨fun r => .bit (auxField Config.params r .fireLatched), exec_qFireLatched⟩
  | qAnyTrippedArmed => exact ⟨fun r => .bit (anyTrippedArmed Config.params r), fun _ => rfl⟩
  | qZoneLight k =>
    have h : 1 ≤ k ∧ k ≤ 6 := of_decide_eq_true hwf
    refine ⟨fun r => .bit (statusField Config.params r (.zone ⟨k - 1, by omega⟩)), fun s => ?_⟩
    change answerStatus k (zoneField k) s = _
    rw [zoneField, dif_pos h, answerStatus_some]
  | qStatusLight k =>
    have h : 1 ≤ k ∧ k ≤ 5 := of_decide_eq_true hwf
    refine ⟨fun r => .bit (statusField Config.params r (.light ⟨k - 1, by omega⟩)), fun s => ?_⟩
    change answerStatus k (lightField k) s = _
    rw [lightField, dif_pos h, answerStatus_some]
  | qBtn k =>
    have h : 1 ≤ k ∧ k ≤ 3 := of_decide_eq_true hwf
    refine ⟨fun r => .bit (auxField Config.params r (.button ⟨k - 1, by omega⟩)), fun s => ?_⟩
    change answerAux k (buttonField k) s = _
    rw [buttonField, dif_pos h, answerAux_some]
  | qZoneTripped k =>
    have h : 1 ≤ k ∧ k ≤ 6 := of_decide_eq_true hwf
    refine ⟨fun r => .bit (auxField Config.params r (.tripped ⟨k - 1, by omega⟩)), fun s => ?_⟩
    change answerAux k (trippedField k) s = _
    rw [trippedField, dif_pos h, answerAux_some]
  | _ => nomatch hi

/-- Settles O51: the answer is computed from the registers, which the query leaves alone. -/
theorem queriesRepeat : Obligations.QueriesRepeat := by
  intro i hmem s
  have hquery : isQuery i = true ∧ i.wf = true := by
    revert i
    decide
  obtain ⟨f, hf⟩ := exec_query hquery.1 hquery.2
  exact ⟨s.answer (f s.regs), hf s, rfl, hf _⟩

/-! ## Every event runs to its end -/

/-- An event is one of the four cases of TICK, SEND_KEY, a query, WAIT_FRAME or RESET (R77). -/
theorem isEvent_cases {i : Instr} (h : i.isEvent = true) :
    (∃ e c d a b n, i = tickCase e c d a b n) ∨ (∃ sym n, i = .sendKey sym n) ∨ isQuery i = true ∨
    i = .waitFrame ∨ i = .reset := by
  cases i with
  | tickLow d a b n => exact .inl ⟨false, false, d, a, b, n, rfl⟩
  | tickRise d a b n => exact .inl ⟨false, true, d, a, b, n, rfl⟩
  | tickFall d a b n => exact .inl ⟨true, false, d, a, b, n, rfl⟩
  | tickHigh d a b n => exact .inl ⟨true, true, d, a, b, n, rfl⟩
  | sendKey sym n => exact .inr (.inl ⟨sym, n, rfl⟩)
  | waitFrame => exact .inr (.inr (.inr (.inl rfl)))
  | reset => exact .inr (.inr (.inr (.inr rfl)))
  | tick | clearDone | resync | keySample | stamp | bitShift | firstBit | release | txEnd | txSlot
  | holdCountdown | complete | beepUpdate | interpret | changeUpdate | keyClassify | saveClk =>
    simp [Instr.isEvent] at h
  | _ => exact .inr (.inr (.inl rfl))

theorem exec_event_next {i : Instr} (hevent : i.isEvent = true) (hwf : i.wf = true) (s : State) :
    ∃ t, exec i s = .next t := by
  rcases isEvent_cases hevent with ⟨e, c, d, a, b, n, rfl⟩ | ⟨sym, n, rfl⟩ | hq | rfl | rfl
  · exact ⟨_, exec_tickCase e c d a b n s⟩
  · have hn : n < 2 ^ 8 := of_decide_eq_true (Bool.and_eq_true_iff.mp hwf).2
    exact ⟨_, exec_sendKey hn sym s⟩
  · obtain ⟨f, hf⟩ := exec_query hq hwf
    exact ⟨_, hf s⟩
  · exact ⟨_, rfl⟩
  · exact ⟨_, rfl⟩

/-- Settles O8: what the decoder answers is an event with admitted operands, and each of these runs to its
end. -/
theorem everyEventRunsToItsEnd : Obligations.EveryEventRunsToItsEnd := by
  intro s
  cases hs : s.script with
  | nil => exact .inl ⟨s, step_of_nil hs⟩
  | cons r rest =>
    cases hd : decode (readRecord s r) with
    | ok i =>
      obtain ⟨t, ht⟩ := exec_event_next (decode_isEvent hd) (encode_of_decode hd).1 { s with script := rest }
      exact .inl ⟨t, (step_of_decode hs hd).trans ht⟩
    | error why => exact .inr ⟨r, rest, why, rfl, hd, step_of_reject hs hd⟩

/-- Settles O45: an index out of range names no field, and a count of 256 or more is not of `HOLD_W` bits. -/
theorem outOfRangeOperandsAreRefused : Obligations.OutOfRangeOperandsAreRefused := by
  intro k sym s
  refine ⟨fun hk => ⟨?_, ?_⟩, fun hk => ?_, fun hk => ?_, fun hk => ?_⟩
  · change answerStatus k (zoneField k) s = _
    rw [zoneField, dif_neg (by omega)]
    rfl
  · change answerAux k (trippedField k) s = _
    rw [trippedField, dif_neg (by omega)]
    rfl
  · change answerStatus k (lightField k) s = _
    rw [lightField, dif_neg (by omega)]
    rfl
  · change answerAux k (buttonField k) s = _
    rw [buttonField, dif_neg (by omega)]
    rfl
  · change execSendKey sym k s = _
    rw [execSendKey, if_neg (by omega)]

/-! ## Events by their words -/

/-- RESET's word is read from no other record (R79). -/
theorem ev_of_decode_reset {s : State} {r : PortRecord} (hd : decode (readRecord s r) = .ok .reset) :
    r.ev = 0x40#7 := by
  have hword : ∀ (e : Level) (ev : BitVec 7), eventWord e ev = 0x40#7 → ev = 0x40#7 := by decide
  exact hword _ _ (encode_of_decode hd).2.symm

/-- A word from 0x20 to 0x32 is read as SEND_KEY or a query, and as SEND_KEY only if it is 0x20 (R79). -/
theorem command_of_decode {s : State} {r : PortRecord} {i : Instr} (hd : decode (readRecord s r) = .ok i)
    (hlo : 0x20 ≤ r.ev.toNat) (hhi : r.ev.toNat ≤ 0x32) :
    (∃ sym n, i = .sendKey sym n ∧ r.ev = 0x20#7) ∨ isQuery i = true := by
  have hev : (encode i).ev = r.ev := by
    rw [(encode_of_decode hd).2]
    exact eventWord_of_class _ _ (by rw [evClass_eq]; omega)
  rcases isEvent_cases (decode_isEvent hd) with ⟨e, c, d, a, b, n, rfl⟩ | ⟨sym, n, rfl⟩ | hq | rfl | rfl
  · have htick : (encode (tickCase e c d a b n)).ev.toNat < 4 := by
      cases e <;> cases c <;> (change ((0#5 ++ _ ++ _ : BitVec 7)).toNat < 4; decide)
    rw [hev] at htick
    omega
  · exact .inl ⟨sym, n, rfl, hev.symm⟩
  · exact .inr hq
  · rw [← hev] at hhi
    exact absurd hhi (by decide)
  · rw [← hev] at hhi
    exact absurd hhi (by decide)

/-- What such a command can do: put a result out, and if it is SEND_KEY write a request (R57, R161). -/
theorem exec_command_cases {s t : State} {r : PortRecord} {i : Instr} (u : State)
    (hd : decode (readRecord s r) = .ok i) (hlo : 0x20 ≤ r.ev.toNat) (hhi : r.ev.toNat ≤ 0x32)
    (h : exec i u = .next t) :
    (∃ a, t = u.answer a) ∨
    (r.ev = 0x20#7 ∧ ∃ sym n, t = (u.mapRegs (Regs.request Config.params sym n)).answer .accept) := by
  have hwf := (encode_of_decode hd).1
  rcases command_of_decode hd hlo hhi with ⟨sym, n, rfl, hev⟩ | hq
  · have hn : n < 2 ^ 8 := of_decide_eq_true (Bool.and_eq_true_iff.mp hwf).2
    rw [exec_sendKey hn] at h
    cases h
    rcases sendKey_cases Config.params sym n u with ⟨-, hs⟩ | ⟨-, hs⟩
    · exact .inr ⟨hev, sym, n, hs⟩
    · exact .inl ⟨_, hs⟩
  · obtain ⟨f, hf⟩ := exec_query hq hwf
    rw [hf u] at h
    cases h
    exact .inl ⟨_, rfl⟩

/-- Settles O34: a query or a rejected SEND_KEY puts a result out, an accepted one writes the request too. -/
theorem hostCommandsWriteOnlyTheRequest : Obligations.HostCommandsWriteOnlyTheRequest := by
  intro s t r rest hs hlo hhi hstep
  rcases step_cases hstep with ⟨hnil, -⟩ | ⟨r', rest', i, hs', hd, he⟩
  · rw [hs] at hnil
    nomatch hnil
  · rw [hs] at hs'
    obtain ⟨rfl, rfl⟩ := List.cons.inj hs'
    rcases exec_command_cases _ hd hlo hhi he with ⟨a, rfl⟩ | ⟨hev, sym, n, rfl⟩
    · exact ⟨rfl, rfl, rfl, rfl, fun _ => rfl⟩
    · exact ⟨rfl, rfl, rfl, rfl, fun hne => absurd hev hne⟩

end Sys2Proof.Machine

/-! PROOFS. Proofs/Tick.lean: TICK as a whole (40_tick_sync.md, 41_tick_receive.md): its four cases, the gap
test, the bits a rising edge takes, and what the sixteenth edge publishes. -/

namespace Sys2Proof.Machine

/-! ## A TICK as an operation -/

theorem exec_tick (clk data aux data2 : Level) (now : Timestamp) (s : State) :
    exec (.tick clk data aux data2 now) s = .next (s.tick ⟨clk, data, aux, data2, now⟩) := rfl

/-- A TICK is known by what it makes of the registers. -/
theorem exec_tick_of_regs {clk data aux data2 : Level} {now : Timestamp} {s : State} {r : Regs}
    (h : s.regs.tick Config.params ⟨clk, data, aux, data2, now⟩ = r) :
    exec (.tick clk data aux data2 now) s = .next { s with result := .noResult, regs := r } := by
  rw [exec_tick, ← h]
  rfl

/-! ## The cases of TICK that write little -/

/-- Writing the Edge Memory the value it holds changes nothing. -/
theorem Regs.saveClk_self {r : Regs} {c : Level} (h : r.edgeMem = c) : r.saveClk c = r := by
  rw [← h]
  rfl

/-- Settles O10: SAVECLK writes the value that is there (R106). -/
theorem tickLowOnlyClearsFrameDone : Obligations.TickLowOnlyClearsFrameDone := by
  intro data aux data2 now s he
  refine exec_tick_of_regs (clk := false) ?_
  rw [Regs.tick_low he rfl]
  exact Regs.saveClk_self (r := s.regs.clearDone) he

/-- Settles O11: KEYSAMPLE takes one bit in the window, and outside it no bit has that place (R108, R120). -/
theorem tickFallSamplesOneKeypadBit : Obligations.TickFallSamplesOneKeypadBit := by
  intro data aux data2 now s he
  have hregs := Regs.tick_fall (p := Config.params) (x := ⟨false, data, aux, data2, now⟩) he rfl
  rcases Regs.fallBranch_cases ⟨false, data, aux, data2, now⟩ s.regs.clearDone with
    ⟨-, hp, hf⟩ | ⟨hp, hf⟩ <;> rw [hf] at hregs
  · exact ⟨_, exec_tick_of_regs (clk := false) hregs, rfl,
      fun i hi => Regs.keySample_getLsbD (r := s.regs.clearDone) hp data2 hi⟩
  · refine ⟨_, exec_tick_of_regs (clk := false) hregs, rfl, fun i hi => ?_⟩
    have hne : i + s.regs.pos.toNat ≠ 7 := by
      rcases hp with h0 | h8
      · rw [show s.regs.pos.toNat = 0 from h0]; omega
      · have : 8 ≤ s.regs.pos.toNat := h8
        omega
    rw [decide_eq_false hne, Bool.false_and, Bool.or_false]
    rfl

/-- Settles O12: the gap test is all that runs between CLEARDONE and SAVECLK (R107). -/
theorem tickHighRunsOnlyTheGapTest : Obligations.TickHighRunsOnlyTheGapTest := by
  intro data aux data2 now s he
  refine exec_tick_of_regs (clk := true) ?_
  rw [Regs.tick_high he rfl, Regs.saveClk_self (by simp [Regs.entry, he])]
  split
  · next hgap => exact Regs.entry_of_gap rfl hgap
  · next hgap => exact Regs.entry_of_no_gap (.inr hgap)

/-- Settles O13 (R238 (a)). -/
theorem unsynchronizedRiseStampsAndReleases : Obligations.UnsynchronizedRiseStampsAndReleases := by
  intro data aux data2 now s he hs hgap
  refine exec_tick_of_regs (clk := true) ?_
  rw [Regs.tick_unsync he rfl hgap hs]
  rfl

/-- Settles O19: SAVECLK is the last step of every TICK (R110). -/
theorem everyTickStoresItsClockLevel : Obligations.EveryTickStoresItsClockLevel := fun _ _ _ _ _ =>
  ⟨fun _ => ⟨_, rfl, rfl⟩, ⟨_, rfl, rfl⟩, ⟨_, rfl, rfl⟩, ⟨_, rfl, rfl⟩, ⟨_, rfl, rfl⟩, fun _ => rfl⟩

/-! ## Completion: when, and what is left alone otherwise -/

/-- `b` has the snapshots of `a` and all that is derived from them. -/
def Regs.SamePublished (a b : Regs) : Prop :=
  b.stAvail = a.stAvail ∧ b.auxAvail = a.auxAvail ∧ b.keyAvail = a.keyAvail ∧ b.stPrev = a.stPrev ∧
  b.keyPrev = a.keyPrev ∧ b.beepCnt = a.beepCnt ∧ b.pressed = a.pressed ∧ b.released = a.released ∧
  b.pressCnt = a.pressCnt ∧ b.changed = a.changed

/-- A TICK that finds this completes a frame: a rising edge of the sixteenth slot of a synchronized frame,
outside the gap window (R100, R104, R123). -/
def Regs.Completes (x : LineSample) (r : Regs) : Prop :=
  x.clk = true ∧ r.edgeMem = false ∧ r.sync = true ∧ r.pos = 15 ∧ ¬ r.gapAt x.now

theorem Regs.entry_samePublished (x : LineSample) (r : Regs) : r.SamePublished (r.entry x) := by
  simp [Regs.SamePublished, Regs.entry]

theorem Regs.bitEdge_samePublished (x : LineSample) (r : Regs) : r.SamePublished (r.bitEdge x) := by
  obtain ⟨v, hv⟩ := r.bitEdge_receive x
  rw [hv]
  exact ⟨rfl, rfl, rfl, rfl, rfl, rfl, rfl, rfl, rfl, rfl⟩

theorem Regs.fallBranch_samePublished (x : LineSample) (r : Regs) : r.SamePublished (r.fallBranch x) := by
  rcases Regs.fallBranch_cases x r with ⟨-, -, h⟩ | ⟨-, h⟩ <;> rw [h] <;>
    exact ⟨rfl, rfl, rfl, rfl, rfl, rfl, rfl, rfl, rfl, rfl⟩

theorem Regs.SamePublished.trans {a b c : Regs} (hab : a.SamePublished b) (hbc : b.SamePublished c) :
    a.SamePublished c := by
  unfold Regs.SamePublished at *
  simp_all

/-- A TICK either completes a frame as the last edge, or completes none and leaves what is published alone
(R102, R123). -/
theorem Regs.tick_completion (p : Params) (x : LineSample) (r : Regs) :
    (r.Completes x ∧ r.tick p x = (r.clearDone.lastEdge p x).saveClk true) ∨
    (¬ r.Completes x ∧ (r.tick p x).frameDone = false ∧ r.SamePublished (r.tick p x)) := by
  have hshape := r.tick_shape p x
  generalize r.tick p x = r' at hshape ⊢
  cases hshape with
  | low _ hclk =>
    refine .inr ⟨?_, rfl, rfl, rfl, rfl, rfl, rfl, rfl, rfl, rfl, rfl, rfl⟩
    rintro ⟨hclk', -⟩
    simp [hclk] at hclk'
  | fall _ hclk =>
    refine .inr ⟨?_, ?_, r.clearDone.fallBranch_samePublished x⟩
    · rintro ⟨hclk', -⟩
      simp [hclk] at hclk'
    · rcases Regs.fallBranch_cases x r.clearDone with ⟨-, -, h⟩ | ⟨-, h⟩ <;> rw [h] <;> rfl
  | high hedge =>
    refine .inr ⟨?_, by simp [Regs.entry], r.entry_samePublished x⟩
    rintro ⟨-, hedge', -⟩
    simp [hedge] at hedge'
  | unsync _ _ _ hsync =>
    refine .inr ⟨?_, rfl, rfl, rfl, rfl, rfl, rfl, rfl, rfl, rfl, rfl, rfl⟩
    rintro ⟨-, -, hsync', -⟩
    simp [hsync] at hsync'
  | bit _ _ _ hpos =>
    refine .inr ⟨?_, ?_, (r.entry_samePublished x).trans (Regs.bitEdge_samePublished x _)⟩
    · rintro ⟨-, -, -, hpos', hgap⟩
      rw [Regs.entry_of_no_gap (.inr hgap)] at hpos
      exact hpos hpos'
    · obtain ⟨v, hv⟩ := (r.entry x).bitEdge_receive x
      rw [hv]
      exact r.clearDone.gapTest_frameDone x
  | last hedge hclk hgap hsync hpos => exact .inl ⟨⟨hclk, hedge, hsync, hpos, hgap⟩, rfl⟩

theorem Regs.lastEdge_frameDone (p : Params) (x : LineSample) (r : Regs) :
    (r.lastEdge p x).frameDone = true := by simp [Regs.lastEdge]

theorem Regs.tick_frameDone_iff (p : Params) (x : LineSample) (r : Regs) :
    (r.tick p x).frameDone = true ↔ r.Completes x := by
  rcases r.tick_completion p x with ⟨hdone, h⟩ | ⟨hnot, h, -⟩
  · exact iff_of_true (by rw [h]; exact r.clearDone.lastEdge_frameDone p x) hdone
  · exact iff_of_false (by simp [h]) hnot

/-- Settles O16: FRAME_DONE is cleared at the start of a TICK and set only by COMPLETE, which is also all
that writes what is published. -/
theorem frameDoneMarksCompletion : Obligations.FrameDoneMarksCompletion := by
  intro clk data aux data2 now s
  refine ⟨_, exec_tick clk data aux data2 now s,
    Regs.tick_frameDone_iff Config.params ⟨clk, data, aux, data2, now⟩ s.regs, rfl, fun hnot => ?_⟩
  rcases s.regs.tick_completion Config.params ⟨clk, data, aux, data2, now⟩ with ⟨hdone, -⟩ | ⟨-, -, h⟩
  · rw [State.tick_regs, Bool.eq_false_iff] at hnot
    exact absurd ((Regs.tick_frameDone_iff _ _ _).mpr hdone) hnot
  · exact h

/-- The last edge publishes the accumulators as they stand after it (R123, R125). -/
theorem Regs.lastEdge_published (p : Params) (x : LineSample) (r : Regs) :
    (r.lastEdge p x).stAvail = (r.lastEdge p x).stAcc ∧
    (r.lastEdge p x).auxAvail = (r.lastEdge p x).auxAcc ∧
    (r.lastEdge p x).keyAvail = (r.lastEdge p x).keyAcc := by
  simp [Regs.lastEdge]

/-- Settles O20: a TICK that completes no frame leaves the snapshots, one that does makes them the
accumulators, and of the other events only RESET writes one. -/
theorem snapshotsChangeOnlyAtCompletion : Obligations.SnapshotsChangeOnlyAtCompletion := by
  intro s t hstep hnoreset
  rcases step_regs_cases hstep with ht | ⟨x, ht⟩ | ⟨sym, n, -, -, ht⟩ | ⟨-, r, rest, hs, hd⟩
  · exact .inl (by simp [ht])
  · rw [ht]
    rcases s.regs.tick_completion Config.params x with ⟨hdone, h⟩ | ⟨-, -, hst, haux, hkey, -⟩
    · have hframe := (Regs.tick_frameDone_iff Config.params x s.regs).mpr hdone
      obtain ⟨-, -, hsync, hpos, -⟩ := hdone
      refine .inr ⟨hframe, hsync, hpos, ?_⟩
      rw [h]
      exact s.regs.clearDone.lastEdge_published Config.params x
    · exact .inl ⟨hst, haux, hkey⟩
  · exact .inl (by simp [ht])
  · exact absurd (ev_of_decode_reset hd) (hnoreset r rest hs)

/-! ## Synchronization -/

theorem Regs.entry_sync_iff (x : LineSample) (r : Regs) :
    (r.entry x).sync = true ↔ (x.clk = true ∧ r.gapAt x.now) ∨ r.sync = true := by
  rcases r.entry_cases x with ⟨hclk, hgap, h⟩ | ⟨hno, h⟩ <;> rw [h]
  · exact iff_of_true rfl (.inl ⟨hclk, hgap⟩)
  · rw [← Bool.not_eq_true, ← not_and_or] at hno
    simp [hno]

/-- A TICK is synchronized after it if it was after the gap test, unless it completed a frame (R104, R123). -/
theorem Regs.tick_sync_iff (p : Params) (x : LineSample) (r : Regs) :
    (r.tick p x).sync = true ↔
      ((x.clk = true ∧ r.gapAt x.now) ∨ r.sync = true) ∧ ¬ r.Completes x := by
  rw [← Regs.entry_sync_iff, ← Regs.tick_frameDone_iff p]
  have hshape := r.tick_shape p x
  generalize r.tick p x = r' at hshape ⊢
  cases hshape with
  | low _ hclk => simp [Regs.entry_of_no_gap (.inl hclk)]
  | fall _ hclk =>
    rw [Regs.entry_of_no_gap (.inl hclk)]
    rcases Regs.fallBranch_cases x r.clearDone with ⟨-, -, h⟩ | ⟨-, h⟩ <;> simp [h]
  | high => simp [Regs.entry]
  | unsync _ _ hgap => simp [Regs.entry_of_no_gap (.inr hgap)]
  | bit => simp [Regs.entry]
  | last => simp [Regs.lastEdge]

/-- Settles O18: for a TICK by what its gap test and COMPLETE do, for a command because it writes no
register but the request's. -/
theorem syncFollowsGapAndCompletion : Obligations.SyncFollowsGapAndCompletion := by
  refine ⟨fun clk data aux data2 now s => ⟨_, exec_tick clk data aux data2 now s, ?_, ?_⟩, ?_⟩
  · intro hsync
    rw [State.tick_regs, Regs.tick_sync_iff]
    simp [hsync, Regs.Completes]
  · intro hsync
    rw [State.tick_regs, ← Bool.not_eq_true, Regs.tick_sync_iff]
    simp [hsync, Regs.Completes]
  · intro s t r rest hs hlo hhi hstep
    obtain ⟨-, -, -, hregs, -⟩ := hostCommandsWriteOnlyTheRequest s t r rest hs hlo hhi hstep
    rw [hregs]

/-! ## The gap test -/

/-- In the window a TICK does what it would do after RESYNC: the gap test runs RESYNC anyway, which reads
nothing that it writes (R104). -/
theorem Regs.tick_resync {x : LineSample} {r : Regs} (hc : x.clk = true) (hgap : r.gapAt x.now)
    (p : Params) : r.resync.tick p x = r.tick p x := by
  unfold Regs.tick
  rw [Regs.gapTest_of_gap (r := r.clearDone) hc hgap, Regs.gapTest_of_gap (r := r.resync.clearDone) hc hgap]
  rfl

/-- `b` holds every accumulator bit that `a` holds. -/
def Regs.KeepsBits (a b : Regs) : Prop :=
  (∀ i, a.stAcc.getLsbD i = true → b.stAcc.getLsbD i = true) ∧
  (∀ i, a.auxAcc.getLsbD i = true → b.auxAcc.getLsbD i = true) ∧
  (∀ i, a.keyAcc.getLsbD i = true → b.keyAcc.getLsbD i = true)

theorem Regs.KeepsBits.refl (r : Regs) : r.KeepsBits r := ⟨fun _ h => h, fun _ h => h, fun _ h => h⟩

theorem getLsbD_or_of_left {w : Nat} {a : BitVec w} {i : Nat} (h : a.getLsbD i = true) (b : BitVec w) :
    (a ||| b).getLsbD i = true := by
  rw [BitVec.getLsbD_or, h, Bool.true_or]

theorem Regs.keySample_keepsBits (r : Regs) (d : Level) : r.KeepsBits (r.keySample d) :=
  ⟨fun _ h => h, fun _ h => h, fun _ h => getLsbD_or_of_left h _⟩

theorem Regs.bitShift_keepsBits (r : Regs) (d a : Level) : r.KeepsBits (r.bitShift d a) :=
  ⟨fun _ h => getLsbD_or_of_left h _, fun _ h => getLsbD_or_of_left h _, fun _ h => h⟩

/-- Outside the gap window a TICK clears no accumulator bit: the steps OR their bits in, and COMPLETE keeps
the accumulators (R120, R122, R125). -/
theorem Regs.tick_keepsBits {x : LineSample} {r : Regs} (hno : x.clk = false ∨ ¬ r.gapAt x.now)
    (p : Params) : r.KeepsBits (r.tick p x) := by
  have hshape := r.tick_shape p x
  generalize r.tick p x = r' at hshape ⊢
  cases hshape with
  | low => exact .refl r
  | fall =>
    rcases Regs.fallBranch_cases x r.clearDone with ⟨-, -, h⟩ | ⟨-, h⟩ <;> rw [h]
    · exact r.keySample_keepsBits _
    · exact .refl r
  | high => rw [Regs.entry_of_no_gap hno]; exact .refl r
  | unsync => exact .refl r
  | bit =>
    rw [Regs.entry_of_no_gap hno]
    obtain ⟨v, hv⟩ := r.clearDone.bitEdge_receive x
    rw [hv]
    exact r.bitShift_keepsBits _ _
  | last =>
    have hlast : (r.bitShift x.data x.aux).KeepsBits ((r.clearDone.lastEdge p x).saveClk true) := by
      unfold Regs.lastEdge
      rw [Regs.interpret_eq]
      exact .refl _
    have hbits := r.bitShift_keepsBits x.data x.aux
    exact ⟨fun i h => hlast.1 i (hbits.1 i h), fun i h => hlast.2.1 i (hbits.2.1 i h),
      fun i h => hlast.2.2 i (hbits.2.2 i h)⟩

/-- Settles O17. -/
theorem resyncRunsExactlyInTheWindow : Obligations.ResyncRunsExactlyInTheWindow := by
  refine ⟨fun data aux data2 now s hgap => ⟨s.mapRegs Regs.resync, rfl, rfl, ?_⟩, ?_⟩
  · exact exec_tick_of_regs (Regs.tick_resync (x := ⟨true, data, aux, data2, now⟩) rfl hgap _).symm
  · intro clk data aux data2 now s hno
    refine ⟨_, exec_tick clk data aux data2 now s, fun hsync => ?_, Regs.tick_keepsBits hno _⟩
    have hno' : ¬ (clk = true ∧ s.regs.gapAt now) := by rwa [not_and_or, Bool.not_eq_true]
    rw [State.tick_regs, ← Bool.not_eq_true, Regs.tick_sync_iff]
    simp [hsync, hno']

end Sys2Proof.Machine

/-! PROOFS. Proofs/Frame.lean: how a frame is received (30_encoding.md R70 to R72, 41_tick_receive.md): the bits
of each rising edge, the sixteenth edge, and what a TICK without a rising edge leaves alone. -/

namespace Sys2Proof.Machine

/-! ## The receive registers after a TICK -/

section
variable {x : LineSample} {r : Regs}

/-- The accumulators after a rising edge of a synchronized frame are those of BITSHIFT, whether or not it
completes the frame (R109, R122, R125). -/
theorem Regs.tick_rise_accumulators (he : r.edgeMem = false) (hc : x.clk = true)
    (hs : (r.entry x).sync = true) (p : Params) :
    (r.tick p x).stAcc = ((r.entry x).bitShift x.data x.aux).stAcc ∧
    (r.tick p x).auxAcc = ((r.entry x).bitShift x.data x.aux).auxAcc ∧
    (r.tick p x).keyAcc = (r.entry x).keyAcc ∧ (r.tick p x).idleT = x.now := by
  by_cases hp : (r.entry x).pos = 15
  · rw [Regs.tick_rise he hc, Regs.riseBranch_of_last hs hp]
    simp [Regs.lastEdge]
  · obtain ⟨v, hv⟩ := (r.entry x).bitEdge_receive x
    rw [Regs.tick_bit he hc hs hp, hv]
    exact ⟨rfl, rfl, rfl, rfl⟩

/-- A rising edge of a synchronized frame at position 15 ends the frame, and any other moves the position on
and leaves what is published alone (R109, R122, R123). -/
theorem Regs.tick_rise_progress (he : r.edgeMem = false) (hc : x.clk = true)
    (hs : (r.entry x).sync = true) (hle : (r.entry x).pos.toNat ≤ 15) (p : Params) :
    if (r.entry x).pos.toNat = 15 then
      (r.tick p x).pos = 0 ∧ (r.tick p x).sync = false ∧ (r.tick p x).frameDone = true
    else (r.tick p x).pos.toNat = (r.entry x).pos.toNat + 1 ∧ (r.tick p x).sync = true ∧
      (r.tick p x).frameDone = false ∧ r.SamePublished (r.tick p x) := by
  split
  · next h15 =>
    rw [Regs.tick_rise he hc, Regs.riseBranch_of_last hs (BitVec.eq_of_toNat_eq h15)]
    simp [Regs.lastEdge]
  · next h15 =>
    rw [Regs.tick_bit he hc hs (fun h => h15 (congrArg BitVec.toNat h))]
    refine ⟨?_, ?_, ?_, (r.entry_samePublished x).trans (Regs.bitEdge_samePublished x _)⟩
    · rw [Regs.saveClk_pos, Regs.bitEdge_pos, pos_succ hle]
    · rw [Regs.saveClk_sync, Regs.bitEdge_sync, hs]
    · simp [Regs.entry]

/-- Without a rising edge a TICK is the gap test, at most one keypad bit, and SAVECLK (R106 to R108). -/
theorem Regs.tick_no_rise (h : r.edgeMem = true ∨ x.clk = false) (p : Params) :
    ∃ k, r.tick p x = { r.entry x with keyAcc := k, edgeMem := x.clk } := by
  have hshape := r.tick_shape p x
  generalize r.tick p x = r' at hshape ⊢
  cases hshape with
  | low _ hclk => exact ⟨r.keyAcc, by rw [Regs.entry_of_no_gap (.inl hclk), hclk]; rfl⟩
  | fall _ hclk =>
    rw [Regs.entry_of_no_gap (.inl hclk), hclk]
    rcases Regs.fallBranch_cases x r.clearDone with ⟨-, -, hf⟩ | ⟨-, hf⟩ <;> rw [hf] <;> exact ⟨_, rfl⟩
  | high _ hclk => exact ⟨_, by rw [hclk]; rfl⟩
  | unsync hedge hclk => simp [hedge, hclk] at h
  | bit hedge hclk => simp [hedge, hclk] at h
  | last hedge hclk => simp [hedge, hclk] at h

end

/-- Settles O32: without a rising edge a TICK changes the position and the accumulators by RESYNC alone. -/
theorem onlyRisingEdgesDriveTheFrame : Obligations.OnlyRisingEdgesDriveTheFrame := by
  intro s t hstep hedge hnoreset
  rcases step_regs_cases hstep with ht | ⟨x, ht⟩ | ⟨sym, n, -, -, ht⟩ | ⟨-, r, rest, hs, hd⟩
  · simp [ht]
  · have hclk : t.regs.edgeMem = x.clk := by rw [ht]; rfl
    rw [hclk] at hedge
    obtain ⟨k, hk⟩ := Regs.tick_no_rise hedge Config.params
    rw [ht, hk]
    rcases s.regs.entry_cases x with ⟨-, -, hq⟩ | ⟨-, hq⟩ <;> rw [hq] <;> simp
  · simp [ht]
  · exact absurd (ev_of_decode_reset hd) (hnoreset r rest hs)

/-- Settles O33: the position moves at a bit edge, and RESYNC, COMPLETE and RESET make it 0. -/
theorem framePositionMovesByOne : Obligations.FramePositionMovesByOne := by
  intro s t hp hstep
  rcases step_regs_cases hstep with ht | ⟨x, ht⟩ | ⟨sym, n, -, -, ht⟩ | ⟨ht, -⟩ <;> rw [ht]
  · exact .inl rfl
  · have hentry : (s.regs.entry x).pos = s.regs.pos ∨ (s.regs.entry x).pos = 0 := by
      rcases s.regs.entry_cases x with ⟨-, -, hq⟩ | ⟨-, hq⟩ <;> simp [hq]
    by_cases hedge : s.regs.edgeMem = true ∨ x.clk = false
    · obtain ⟨k, hk⟩ := Regs.tick_no_rise hedge Config.params
      rw [hk]
      exact hentry.imp_right .inl
    · have hshape := s.regs.tick_shape Config.params x
      generalize s.regs.tick Config.params x = r' at hshape ⊢
      cases hshape with
      | low _ hclk | fall _ hclk => exact absurd (.inr hclk) hedge
      | high hedge' => exact absurd (.inl hedge') hedge
      | unsync => exact .inl rfl
      | bit hedge' _ hsync =>
        refine .inr (.inr ⟨hedge', rfl, by simp [hsync], ?_⟩)
        rcases s.regs.entry_cases x with ⟨-, -, hq⟩ | ⟨-, hq⟩ <;> rw [hq] at hsync ⊢
        · exact .inr (by simp)
        · refine .inl ⟨hsync, ?_⟩
          rw [Regs.saveClk_pos, Regs.bitEdge_pos]
          exact pos_succ hp
      | last => exact .inr (.inl (by simp [Regs.lastEdge]))
  · exact .inl rfl
  · exact .inr (.inl rfl)

/-! ## One rising edge -/

/-- The gap test with its outcome as a truth value, for a clock that is high (R104). -/
theorem Regs.entry_of_gap_iff {x : LineSample} {r : Regs} {gap : Bool} (hc : x.clk = true)
    (hgap : gap = true ↔ r.gapAt x.now) :
    r.entry x = if gap then r.clearDone.resync else r.clearDone := by
  cases gap
  · exact Regs.entry_of_no_gap (.inr (hgap.not.mp Bool.false_ne_true))
  · exact Regs.entry_of_gap hc (hgap.mp rfl)

/-- Settles O14: the accumulators take what BITSHIFT places after the gap test; position 15 is the last
edge, any other a bit edge. -/
theorem risingEdgeShiftsOneBit : Obligations.RisingEdgeShiftsOneBit := by
  intro data aux data2 now s gap p he hgap hor hp hle
  have hentry := Regs.entry_of_gap_iff (x := ⟨true, data, aux, data2, now⟩) rfl hgap
  generalize hx : (⟨true, data, aux, data2, now⟩ : LineSample) = x at hentry
  have hc : x.clk = true := by rw [← hx]
  have hsync : (s.regs.entry x).sync = true := by
    rw [hentry]
    cases gap
    · exact hor.resolve_left Bool.false_ne_true
    · rfl
  have hpos : (s.regs.entry x).pos.toNat = p := by
    rw [hp, hentry]
    cases gap <;> rfl
  obtain ⟨hst, haux, hkey, hidle⟩ := Regs.tick_rise_accumulators he hc hsync Config.params
  refine ⟨s.tick x, by rw [← hx]; rfl, rfl, ?_, ?_, ?_, ?_, ?_, ?_⟩
  · rw [State.tick_regs, hidle, ← hx]
  · exact hc
  · rw [State.tick_regs, hkey, hentry]
    cases gap <;> rfl
  · intro i hi
    rw [State.tick_regs, hst, Regs.bitShift_stAcc_getLsbD (hpos ▸ hle) _ _ hi, hpos, hentry]
    cases gap <;> simp [← hx]
  · intro i hi
    rw [State.tick_regs, haux, Regs.bitShift_auxAcc_getLsbD (hpos ▸ hle) _ _ hi, hpos, hentry]
    cases gap <;> simp [← hx]
  · have hprogress := Regs.tick_rise_progress he hc hsync (hpos ▸ hle) Config.params
    rw [hpos] at hprogress
    exact hprogress

/-! ## The sixteenth edge -/

/-- A saturating counter that starts again under a condition, as a number (R111 (f)). -/
theorem toNat_restart_or_satInc (q : Prop) [Decidable q] (c : Count) :
    (if q then (0 : Count) else satInc c).toNat = if q then 0 else min (c.toNat + 1) 65535 := by
  split
  · rfl
  · exact satInc_toNat c

/-- The press counter of KEY_CLASSIFY as a number; with a key down that is the one before, KEY_PREV is a key
too (R202). -/
theorem toNat_pressCnt (new old : KeyBits) (c : Count) :
    (if new = 0 then (0 : Count) else if old ≠ 0 ∧ new = old then satInc c else 1).toNat =
      if new = 0 then 0 else if new = old then min (c.toNat + 1) 65535 else 1 := by
  by_cases h0 : new = 0
  · rw [if_pos h0, if_pos h0]
    rfl
  · rw [if_neg h0, if_neg h0]
    by_cases heq : new = old
    · rw [if_pos ⟨heq ▸ h0, heq⟩, if_pos heq, satInc_toNat]
    · rw [if_neg (fun h => heq h.2), if_neg heq]
      rfl

/-- Settles O15: the last edge is BITSHIFT, RELEASE, TXEND, COMPLETE and INTERPRET, each writing its own
registers. -/
theorem sixteenthEdgePublishesTheFrame : Obligations.SixteenthEdgePublishesTheFrame := by
  intro data aux data2 now s he hs hp hgap
  refine ⟨_, exec_tick_of_regs (clk := true)
    (Regs.tick_last (x := ⟨true, data, aux, data2, now⟩) he rfl hgap hs hp), ?_, ?_, ?_, ?_, ?_⟩
  · unfold Regs.lastEdge
    rw [Regs.interpret_eq]
    rfl
  · rw [Regs.saveClk_beepCnt, Regs.lastEdge, Regs.interpret_beepCnt, Regs.complete_beepCnt]
    simp only [Regs.saveClk_stAvail, Regs.interpret_stAvail, Regs.complete_stAvail]
    exact toNat_restart_or_satInc _ _
  · simp [Regs.lastEdge]
  · rw [Regs.saveClk_released, Regs.lastEdge, Regs.interpret_released]
    rfl
  · rw [Regs.saveClk_pressCnt, Regs.lastEdge, Regs.interpret_pressCnt]
    exact toNat_pressCnt _ _ _

/-! ## A frame, slot by slot -/

/-- RESYNC leaves no slot received. -/
theorem Regs.HoldsSlots.resync (st ax : Word) (r : Regs) : r.resync.HoldsSlots st ax 0 where
  synced := rfl
  at_pos := rfl
  status i hi := by simp [Nat.not_le.mpr hi]
  aux i hi := by simp [Nat.not_le.mpr hi]

/-- One bit more of a word whose first `k` bits are there makes the first `k + 1` bits. -/
theorem slot_bit (w : Word) {k i : Nat} (hk : k ≤ 15) :
    ((decide (16 ≤ i + k) && w.getLsbD i) || (decide (i + k = 15) && w.getLsbD (15 - k))) =
      (decide (16 ≤ i + (k + 1)) && w.getLsbD i) := by
  rcases Nat.lt_trichotomy (i + k) 15 with h | h | h
  · rw [decide_eq_false (by omega), decide_eq_false (by omega), decide_eq_false (by omega)]
    rfl
  · rw [decide_eq_false (by omega), decide_eq_true h, decide_eq_true (by omega), show 15 - k = i by omega]
    simp
  · rw [decide_eq_true (by omega), decide_eq_false (by omega), decide_eq_true (by omega)]
    simp

section
variable {st ax : Word} {k : Nat} {r : Regs}

/-- BITSHIFT with the levels of slot `k` adds that slot (R122). -/
theorem Regs.HoldsSlots.bitShift (h : r.HoldsSlots st ax k) (hk : k ≤ 15) :
    (r.bitShift (st.getLsbD (15 - k)) (ax.getLsbD (15 - k))).HoldsSlots st ax (k + 1) where
  synced := h.synced
  at_pos := by rw [Regs.bitShift_pos, pos_succ (h.at_pos ▸ hk), h.at_pos]
  status i hi := by
    rw [Regs.bitShift_stAcc_getLsbD (h.at_pos ▸ hk) _ _ hi, h.status i hi, h.at_pos, slot_bit st hk]
  aux i hi := by
    rw [Regs.bitShift_auxAcc_getLsbD (h.at_pos ▸ hk) _ _ hi, h.aux i hi, h.at_pos, slot_bit ax hk]

/-- With sixteen slots received the accumulators are the words. -/
theorem Regs.HoldsSlots.all (h : r.HoldsSlots st ax 16) : r.stAcc = st ∧ r.auxAcc = ax := by
  constructor <;> refine BitVec.eq_of_getLsbD_eq fun i hi => ?_
  · rw [h.status i hi, decide_eq_true (by omega), Bool.true_and]
  · rw [h.aux i hi, decide_eq_true (by omega), Bool.true_and]

end

/-- Settles O37: RESYNC starts the words, BITSHIFT adds a slot, a tick without a rising edge or a gap leaves
them, and the last edge publishes them. -/
theorem frameIsReceivedSlotBySlot : Obligations.FrameIsReceivedSlotBySlot := by
  refine ⟨?_, ?_, ?_⟩
  · intro st ax data aux data2 now s he hgap
    refine ⟨_, exec_tick_of_regs (clk := true) (Regs.tick_high he rfl), ?_⟩
    rw [Regs.entry_of_gap rfl hgap]
    exact { Regs.HoldsSlots.resync st ax s.regs.clearDone with }
  · intro st ax k data2 now s h hk he hgap
    have hshift := (show (s.regs.clearDone.stamp now).HoldsSlots st ax k from { h with }).bitShift hk
    by_cases h15 : k = 15
    · subst h15
      refine ⟨_, exec_tick_of_regs (clk := true) (Regs.tick_last
        he rfl hgap h.synced (BitVec.eq_of_toNat_eq h.at_pos)), ?_⟩
      rw [if_pos rfl]
      simpa [Regs.lastEdge] using hshift.all
    · have hentry := Regs.entry_of_no_gap
        (x := ⟨true, st.getLsbD (15 - k), ax.getLsbD (15 - k), data2, now⟩) (.inr hgap)
      have hnot : s.regs.pos ≠ 15 := fun hp => h15 (h.at_pos.symm.trans (congrArg BitVec.toNat hp))
      refine ⟨_, exec_tick_of_regs (clk := true) (Regs.tick_bit
        he rfl (hentry ▸ h.synced) (hentry ▸ hnot)), ?_⟩
      rw [if_neg h15, hentry]
      obtain ⟨v, hv⟩ := s.regs.clearDone.bitEdge_receive
        ⟨true, st.getLsbD (15 - k), ax.getLsbD (15 - k), data2, now⟩
      rw [hv]
      exact { hshift with }
  · intro st ax k clk data aux data2 now s h hedge hno
    obtain ⟨key, hregs⟩ := Regs.tick_no_rise (x := ⟨clk, data, aux, data2, now⟩) hedge Config.params
    rw [Regs.entry_of_no_gap hno] at hregs
    exact ⟨_, exec_tick_of_regs hregs, { h with }⟩

end Sys2Proof.Machine

/-! PROOFS. Proofs/SubOperations.lean: the rows of the sub-operations (30_encoding.md R78), each as what it
writes, and TICK as their sequence (40_tick_sync.md R100). -/

namespace Sys2Proof.Machine

/-! ## What each row writes -/

/-- Settles O21 (R102, R104, R110). -/
theorem syncStepsWriteTheirRegisters : Obligations.SyncStepsWriteTheirRegisters :=
  fun _ => ⟨rfl, rfl, fun _ => rfl⟩

/-- Settles O22: the bits are those that the two steps place (R120 to R122). -/
theorem receiveStepsPlaceTheirBits : Obligations.ReceiveStepsPlaceTheirBits := by
  refine ⟨?_, fun _ _ => rfl, ?_⟩
  · intro data2 s _ hp
    exact ⟨_, rfl, rfl, fun i hi => Regs.keySample_getLsbD hp data2 hi⟩
  · intro data aux s hp
    exact ⟨_, rfl, rfl, pos_succ hp, fun i hi =>
      ⟨Regs.bitShift_stAcc_getLsbD hp data aux hi, Regs.bitShift_auxAcc_getLsbD hp data aux hi⟩⟩

/-- BEEP_UPDATE's counter as a number: counted while the beep bit is set, else 0 (R124). -/
theorem Regs.beepUpdate_toNat (p : Params) (r : Regs) : (r.beepUpdate p).beepCnt.toNat =
    if r.stAvail &&& p.statusMask .beep = 0 then 0 else min (r.beepCnt.toNat + 1) 65535 := by
  rw [Regs.beepUpdate_beepCnt, statusField]
  by_cases h : r.stAvail &&& p.statusMask .beep = 0
  · rw [if_neg (by rw [masked_iff]; exact not_not.mpr h), if_pos h]
    rfl
  · rw [if_pos ((masked_iff _ _).mpr h), if_neg h, satInc_toNat]

/-- Settles O23: COMPLETE runs BEEP_UPDATE between the snapshots and the end of the frame (R123, R124). -/
theorem completeStepsTakeSnapshots : Obligations.CompleteStepsTakeSnapshots :=
  ⟨fun s => ⟨_, rfl, rfl, Regs.beepUpdate_toNat Config.params s.regs.takeSnapshots⟩,
    fun s => ⟨_, rfl, rfl, Regs.beepUpdate_toNat Config.params s.regs⟩⟩

/-- A row that changes the registers is known by what it makes of them. -/
theorem State.mapRegs_of_eq {s : State} {f : Regs → Regs} {r : Regs} (h : f s.regs = r) :
    s.mapRegs f = { s with regs := r } := by
  rw [← h]
  rfl

theorem Regs.firstBit_frame (r : Regs) : r.firstBit = { r with
    txActive := r.firstBit.txActive, txCur := r.firstBit.txCur, quietCnt := r.firstBit.quietCnt } := by
  unfold Regs.firstBit
  split <;> rfl

/-- What TXSLOT leaves of the request, by the cursor it ran at (R144). -/
theorem Regs.txSlot_request (r : Regs) :
    if r.txCur.toNat = 6 then r.txSlot.txHold = r.txHold - 1 ∧
      r.txSlot.txCode = (if r.txHold = 1 then 0 else r.txCode)
    else r.txSlot.txHold = r.txHold ∧ r.txSlot.txCode = r.txCode := by
  rcases r.txSlot_request_cases with ⟨hc, hh, hcode, hhold⟩ | ⟨hc, hh, hcode, hhold⟩ | ⟨hc, hcode, hhold⟩
  · rw [if_pos hc, if_pos hh, hh]
    exact ⟨hhold, hcode⟩
  · rw [if_pos hc, if_neg hh]
    exact ⟨hhold, hcode⟩
  · rw [if_neg hc]
    exact ⟨hhold, hcode⟩

/-- What FIRSTBIT does to the transmitter: a quiet frame is counted, a request picked up (R140). -/
theorem Regs.firstBit_transmitter (r : Regs) :
    if r.txCode = 0 then r.firstBit.txActive = r.txActive ∧ r.firstBit.txCur = r.txCur ∧
      r.firstBit.quietCnt.toNat = min (r.quietCnt.toNat + 1) 65535
    else r.firstBit.txActive = true ∧ r.firstBit.txCur = 0 ∧ r.firstBit.quietCnt = 0 := by
  split
  · next h =>
    rw [Regs.firstBit_of_idle r h]
    exact ⟨rfl, rfl, satInc_toNat _⟩
  · next h =>
    rw [Regs.firstBit_of_pending r h]
    exact ⟨rfl, rfl, rfl⟩

/-- Settles O24 (R140 to R144). -/
theorem transmitStepsWriteTheirRegisters : Obligations.TransmitStepsWriteTheirRegisters := by
  refine ⟨fun s => ?firstBit, fun _ => rfl, fun _ => rfl, fun s hcur => ?txSlot, fun s hne => ?holdCountdown⟩
  case firstBit =>
    exact ⟨_, rfl, State.mapRegs_of_eq s.regs.firstBit_frame, s.regs.firstBit_transmitter⟩
  case txSlot =>
    exact ⟨_, rfl, State.mapRegs_of_eq s.regs.txSlot_frame, s.regs.txSlot_driveLow,
      (congrArg BitVec.toNat s.regs.txSlot_txCur).trans (txCur_succ hcur), s.regs.txSlot_request⟩
  case holdCountdown =>
    refine ⟨_, rfl, rfl, ?_, fun h => if_pos h, fun h => if_neg h⟩
    change (s.regs.txHold - 1).toNat + 1 = s.regs.txHold.toNat
    have hpos : s.regs.txHold.toNat ≠ 0 := fun h => hne (BitVec.eq_of_toNat_eq h)
    bv_omega

theorem word_ne_iff (a b : Word) : a ≠ b ↔ ∃ i : Fin 16, a.getLsbD i ≠ b.getLsbD i := by
  rw [← not_iff_not, not_not, not_exists]
  exact ⟨fun h i => by rw [h]; exact not_not.mpr rfl,
    fun h => BitVec.eq_of_getLsbD_eq fun i hi => not_not.mp (h ⟨i, hi⟩)⟩

/-- Settles O25: CHANGED compares bit by bit, and each row of the table is one case of KEY_CLASSIFY's values
(R200 to R202). -/
theorem interpretFollowsTheTable : Obligations.InterpretFollowsTheTable := by
  refine ⟨fun s => ?_, fun s => ?_, fun s => ⟨_, _, rfl, rfl, rfl⟩⟩
  · rw [← decide_eq_decide.mpr (word_ne_iff s.regs.stAvail s.regs.stPrev)]
    rfl
  · have hreleased := s.regs.keyClassify_released
    have hcnt := s.regs.keyClassify_pressCnt
    refine ⟨_, rfl, State.mapRegs_of_eq s.regs.keyClassify_frame, s.regs.keyClassify_pressed,
      fun hold hnew => ?none, fun hold hnew => ?press, fun hold hnew => ?held, fun hold hnew hne => ?different,
      fun hold hnew => ?release⟩ <;> rw [State.mapRegs_regs, hreleased, hcnt]
    case none =>
      rw [if_neg (fun h => h.1 hold), if_pos hnew]
      exact ⟨rfl, rfl⟩
    case press =>
      rw [if_neg (fun h => h.1 hold), if_neg hnew, if_neg (fun h => h.1 hold)]
      exact ⟨rfl, rfl⟩
    case held =>
      rw [if_neg (fun h => h.2 hnew), if_neg (hnew ▸ hold), if_pos ⟨hold, hnew⟩]
      exact ⟨rfl, satInc_toNat _⟩
    case different =>
      rw [if_pos ⟨hold, hne⟩, if_neg hnew, if_neg (fun h => hne h.2)]
      exact ⟨rfl, rfl⟩
    case release =>
      rw [if_pos ⟨hold, fun h => hold (h.symm.trans hnew)⟩, if_pos hnew]
      exact ⟨rfl, rfl⟩

/-! ## TICK as a sequence of rows -/

theorem runRows_cons {i : Instr} {s u : State} (h : exec i s = .next u) (rest : List Instr) :
    runRows (i :: rest) s = runRows rest u := by
  rw [runRows, h]

/-- Rows that run to their end are followed by the rows after them. -/
theorem runRows_append {xs : List Instr} {s t : State} (h : runRows xs s = .next t) (ys : List Instr) :
    runRows (xs ++ ys) s = runRows ys t := by
  induction xs generalizing s with
  | nil => cases h; rfl
  | cons i xs ih =>
    cases he : exec i s with
    | next u =>
      rw [runRows_cons he] at h
      rw [List.cons_append, runRows_cons he]
      exact ih h
    | fault f => rw [runRows, he] at h; nomatch h
    | refused why => rw [runRows, he] at h; nomatch h

/-- Whether slot `p` of a synchronized frame is driven, by the registers before its rising edge: at position
0 a pending request is picked up first (R140, R143). -/
def slotOpen (r : Regs) : Bool :=
  if r.pos.toNat = 0 ∧ r.txCode ≠ 0 then true else r.txActive && decide (r.txCur.toNat < 7)

/-- The rows of a rising edge, with `SYNC` and the position after the gap test and whether the slot is
driven (R100, R109). -/
def riseRows (x : LineSample) (synced active : Bool) (p : Nat) : List Instr :=
  [Instr.stamp x.now] ++ (if synced then [Instr.bitShift x.data x.aux] else []) ++
  (if synced ∧ p = 0 then [Instr.firstBit] else []) ++ [Instr.release] ++
  (if synced ∧ 7 ≤ p then [Instr.txEnd] else []) ++
  (if synced ∧ p < 7 ∧ active then [Instr.txSlot] else []) ++
  (if synced ∧ p = 15 then [Instr.complete, Instr.interpret] else [])

theorem riseRows_unsync (x : LineSample) (active : Bool) (p : Nat) :
    riseRows x false active p = [.stamp x.now, .release] := by simp [riseRows]

theorem riseRows_first (x : LineSample) (active : Bool) : riseRows x true active 0 =
    [.stamp x.now, .bitShift x.data x.aux, .firstBit, .release] ++
      (if active then [.txSlot] else []) := by simp [riseRows]

theorem riseRows_slot (x : LineSample) (active : Bool) {p : Nat} (h1 : 1 ≤ p) (h6 : p ≤ 6) :
    riseRows x true active p = [.stamp x.now, .bitShift x.data x.aux, .release] ++
      (if active then [.txSlot] else []) := by
  simp [riseRows, show p ≠ 0 by omega, show ¬ 7 ≤ p by omega, show p < 7 by omega, show p ≠ 15 by omega]

theorem riseRows_late (x : LineSample) (active : Bool) {p : Nat} (h7 : 7 ≤ p) (h14 : p ≤ 14) :
    riseRows x true active p = [.stamp x.now, .bitShift x.data x.aux, .release, .txEnd] := by
  simp [riseRows, show p ≠ 0 by omega, h7, show ¬ p < 7 by omega, show p ≠ 15 by omega]

theorem riseRows_last (x : LineSample) (active : Bool) : riseRows x true active 15 =
    [.stamp x.now, .bitShift x.data x.aux, .release, .txEnd, .complete, .interpret] := by simp [riseRows]

/-- TXSLOT's row runs under TXSLOT's condition (R143). -/
theorem runRows_slot {active : Bool} {u : State}
    (h : active = true ↔ u.regs.txActive = true ∧ u.regs.txCur.toNat < 7) :
    runRows (if active then [.txSlot] else []) u = .next (u.mapRegs Regs.slotPart) := by
  rcases u.regs.slotPart_cases with ⟨hslot, heq⟩ | ⟨hslot, heq⟩
  · rw [if_pos (h.mpr hslot), State.mapRegs_of_eq heq]
    rfl
  · rw [if_neg (mt h.mp hslot), State.mapRegs_of_eq heq]
    rfl

/-- At position 0 the slot is driven exactly if it is after FIRSTBIT, which reads the request that STAMP and
BITSHIFT leave alone (R140, R143). -/
theorem slotOpen_first {r q : Regs} (hp : r.pos = 0) (hcode : q.txCode = r.txCode)
    (hactive : q.txActive = r.txActive) (hcur : q.txCur = r.txCur) :
    slotOpen r = true ↔ q.firstBit.txActive = true ∧ q.firstBit.txCur.toNat < 7 := by
  unfold slotOpen
  by_cases hc : r.txCode = 0
  · rw [Regs.firstBit_of_idle q (hcode.trans hc), if_neg (fun h => h.2 hc)]
    simp [hactive, hcur]
  · rw [Regs.firstBit_of_pending q (hcode ▸ hc), if_pos ⟨by simp [hp], hc⟩]
    simp

theorem slotOpen_later {r : Regs} (hp : 1 ≤ r.pos.toNat) :
    slotOpen r = true ↔ r.txActive = true ∧ r.txCur.toNat < 7 := by
  simp [slotOpen, show r.pos.toNat ≠ 0 by omega]

/-- The rising-edge branch is its rows (R100, R109). -/
theorem runRows_riseRows (x : LineSample) (u : State) (hp : u.regs.pos.toNat ≤ 15) :
    runRows (riseRows x u.regs.sync (slotOpen u.regs) u.regs.pos.toNat) u =
      .next (u.mapRegs (Regs.riseBranch Config.params x)) := by
  cases hs : u.regs.sync with
  | false =>
    rw [riseRows_unsync, State.mapRegs_of_eq (Regs.riseBranch_unsync Config.params x u.regs hs)]
    rfl
  | true =>
    rcases Regs.riseBranch_cases Config.params x u.regs hs hp with
      ⟨h0, h⟩ | ⟨h1, h6, h⟩ | ⟨h7, h14, h⟩ | ⟨h15, h⟩ <;> rw [State.mapRegs_of_eq h]
    · rw [show u.regs.pos.toNat = 0 by simp [h0], riseRows_first]
      refine (runRows_append rfl _).trans ((runRows_slot ?_).trans rfl)
      exact slotOpen_first h0 rfl rfl rfl
    · rw [riseRows_slot x _ h1 h6]
      refine (runRows_append rfl _).trans ((runRows_slot ?_).trans rfl)
      exact slotOpen_later h1
    · rw [riseRows_late x _ h7 h14]
      rfl
    · rw [show u.regs.pos.toNat = 15 by simp [h15], riseRows_last]
      rfl

/-- The rows of the edge branch (R100, R105). -/
def edgeRows (x : LineSample) (edge synced active : Bool) (p : Nat) : List Instr :=
  if edge = true ∧ x.clk = false then (if 1 ≤ p ∧ p ≤ 7 then [.keySample x.data2] else [])
  else if edge = false ∧ x.clk = true then riseRows x synced active p
  else []

theorem runRows_edgeRows (x : LineSample) (u : State) (hp : u.regs.pos.toNat ≤ 15) :
    runRows (edgeRows x u.regs.edgeMem u.regs.sync (slotOpen u.regs) u.regs.pos.toNat) u =
      .next (u.mapRegs (Regs.edgeBranch Config.params x)) := by
  unfold edgeRows
  cases he : u.regs.edgeMem <;> cases hc : x.clk
  · have h : u.regs.edgeBranch Config.params x = u.regs := by simp [Regs.edgeBranch, isFall, isRise, he, hc]
    rw [State.mapRegs_of_eq h]
    rfl
  · have h : u.regs.edgeBranch Config.params x = u.regs.riseBranch Config.params x := by
      simp [Regs.edgeBranch, isFall, isRise, he, hc]
    rw [State.mapRegs_of_eq h]
    exact runRows_riseRows x u hp
  · have h : u.regs.edgeBranch Config.params x = u.regs.fallBranch x := by
      simp [Regs.edgeBranch, isFall, he, hc]
    rw [State.mapRegs_of_eq h, if_pos ⟨rfl, rfl⟩]
    rcases Regs.fallBranch_cases x u.regs with ⟨h1, h7, hf⟩ | ⟨hout, hf⟩ <;> rw [hf]
    · rw [if_pos ⟨h1, h7⟩]
      rfl
    · rw [if_neg (by omega)]
      rfl
  · have h : u.regs.edgeBranch Config.params x = u.regs := by simp [Regs.edgeBranch, isFall, isRise, he, hc]
    rw [State.mapRegs_of_eq h]
    rfl

/-- CLEARDONE and, in the window, RESYNC make the registers that the edge branch starts from (R104). -/
theorem runRows_entry (x : LineSample) (s : State) :
    runRows ([.clearDone] ++ (if decide (x.clk = true ∧ s.regs.gapAt x.now) then [.resync] else [])) s =
      .next (s.mapRegs (Regs.entry x)) := by
  rcases s.regs.entry_cases x with ⟨hclk, hgap, h⟩ | ⟨hno, h⟩ <;> rw [State.mapRegs_of_eq h]
  · rw [decide_eq_true ⟨hclk, hgap⟩]
    rfl
  · rw [decide_eq_false (by rwa [not_and_or, Bool.not_eq_true])]
    rfl

/-- Settles O9: the rows up to RESYNC make the registers of the edge branch, whose rows are told by the
registers it starts from; these differ from those before the TICK only as the gap test says. -/
theorem tickIsItsSubOperations : Obligations.TickIsItsSubOperations := by
  intro clk data aux data2 now s gap p synced active rows hle
  obtain ⟨x, hx⟩ : ∃ x : LineSample, x = ⟨clk, data, aux, data2, now⟩ := ⟨_, rfl⟩
  have hgap : gap = decide (x.clk = true ∧ s.regs.gapAt x.now) := by rw [hx]
  have hrows : rows = ([.clearDone] ++ (if gap then [.resync] else [])) ++
      edgeRows x s.regs.edgeMem synced active p ++ [.saveClk x.clk] := by rw [hx]; rfl
  have hentry : p = (s.regs.entry x).pos.toNat ∧ synced = (s.regs.entry x).sync := by
    rcases s.regs.entry_cases x with ⟨hclk, hin, h⟩ | ⟨hno, h⟩ <;> rw [h]
    · have : gap = true := hgap.trans (decide_eq_true ⟨hclk, hin⟩)
      simp [p, synced, this]
    · have : gap = false := hgap.trans (decide_eq_false (by rwa [not_and_or, Bool.not_eq_true]))
      simp [p, synced, this]
  have hactive : active = slotOpen (s.regs.entry x) := by
    simp [active, slotOpen, hentry.1, Regs.entry]
  have hedge : s.regs.edgeMem = (s.regs.entry x).edgeMem := by simp [Regs.entry]
  refine ⟨s.mapRegs (Regs.tick Config.params x), ?_, by rw [hx]; rfl⟩
  rw [hrows, hactive, hentry.1, hentry.2, hedge, hgap, List.append_assoc,
    runRows_append (runRows_entry x s)]
  have hbranch := runRows_edgeRows x (s.mapRegs (Regs.entry x)) (hentry.1 ▸ hle)
  exact (runRows_append hbranch _).trans rfl

end Sys2Proof.Machine

/-! PROOFS. Proofs/Transmission.lean: how a request is sent (42_tick_transmit.md): the slots of a frame, the end
of transmitting mode, and what a step can do to it. -/

namespace Sys2Proof.Machine

/-! ## The slots, as the rising edge finds them -/

section
variable {x : LineSample} {r : Regs}

/-- Outside the gap window the rising edge of slot 0 to 14 of a synchronized frame is a bit edge. -/
theorem Regs.tick_bit_of_no_gap (he : r.edgeMem = false) (hc : x.clk = true) (hgap : ¬ r.gapAt x.now)
    (hs : r.sync = true) (hp : r.pos ≠ 15) (p : Params) :
    r.tick p x = (r.clearDone.bitEdge x).saveClk true := by
  have hq := Regs.entry_of_no_gap (x := x) (r := r) (.inr hgap)
  rw [Regs.tick_bit he hc (hq ▸ hs) (hq ▸ hp), hq]

/-- The bit edge of a position with a slot (R109, R143). -/
theorem Regs.bitEdge_of_slot (h1 : 1 ≤ r.pos.toNat) (h6 : r.pos.toNat ≤ 6) :
    r.bitEdge x = ((r.stamp x.now).bitShift x.data x.aux).release.slotPart := by
  have hsucc : (r.pos + 1).toNat = r.pos.toNat + 1 := pos_succ (by omega)
  rcases r.bitEdge_cases x with ⟨h0, -⟩ | ⟨-, -, h⟩ | ⟨h8, -⟩
  · rw [pos_eq_zero_iff] at h0
    omega
  · exact h
  · omega

/-- The bit edge of a later position (R109, R142). -/
theorem Regs.bitEdge_of_late (h7 : 7 ≤ r.pos.toNat) (h15 : r.pos.toNat ≤ 15) :
    r.bitEdge x = ((r.stamp x.now).bitShift x.data x.aux).release.txEnd := by
  have hsucc : (r.pos + 1).toNat = r.pos.toNat + 1 := pos_succ h15
  rcases r.bitEdge_cases x with ⟨h0, -⟩ | ⟨-, h8, -⟩ | ⟨-, h⟩
  · rw [pos_eq_zero_iff] at h0
    omega
  · omega
  · exact h

theorem Regs.bitEdge_of_first (h0 : r.pos = 0) :
    r.bitEdge x = ((r.stamp x.now).bitShift x.data x.aux).firstBit.release.slotPart := by
  rcases r.bitEdge_cases x with ⟨-, h⟩ | ⟨hne, -⟩ | ⟨h8, -⟩
  · exact h
  · exact absurd h0 hne
  · rw [h0] at h8
    exact absurd h8 (by decide)

/-- A rising edge that starts a frame, at position 0 or by RESYNC, is a first bit edge (R104, R140). -/
theorem Regs.tick_first (he : r.edgeMem = false) (hc : x.clk = true)
    (hfirst : r.gapAt x.now ∨ (r.sync = true ∧ r.pos = 0)) (p : Params) :
    (r.entry x).pos = 0 ∧ r.tick p x =
      (((r.entry x).stamp x.now).bitShift x.data x.aux).firstBit.release.slotPart.saveClk true := by
  have hentry : (r.entry x).sync = true ∧ (r.entry x).pos = 0 := by
    rcases r.entry_cases x with ⟨-, -, hq⟩ | ⟨hno, hq⟩ <;> rw [hq]
    · exact ⟨rfl, rfl⟩
    · exact hfirst.resolve_left (hno.resolve_left (by simp [hc]))
  refine ⟨hentry.2, ?_⟩
  rw [Regs.tick_bit he hc hentry.1 (by rw [hentry.2]; decide), Regs.bitEdge_of_first hentry.2]

/-- The transmit registers after TXSLOT, or after the step that stands in its place (R143). -/
theorem Regs.slotPart_transmitter (r : Regs) :
    if r.txActive = true ∧ r.txCur.toNat < 7 then
      r.slotPart.driveLow = (r.txCode.getLsbD (6 - r.txCur.toNat) || r.driveLow) ∧
      r.slotPart.txCur.toNat = r.txCur.toNat + 1 ∧
      (if r.txCur.toNat = 6 then r.slotPart.txHold = r.txHold - 1 ∧
        r.slotPart.txCode = (if r.txHold = 1 then 0 else r.txCode)
       else r.slotPart.txHold = r.txHold ∧ r.slotPart.txCode = r.txCode)
    else r.slotPart.driveLow = r.driveLow ∧ r.slotPart.txCur = r.txCur ∧
      r.slotPart.txHold = r.txHold ∧ r.slotPart.txCode = r.txCode := by
  rcases r.slotPart_cases with ⟨h, hslot⟩ | ⟨h, hslot⟩ <;> rw [hslot]
  · rw [if_pos h]
    exact ⟨r.txSlot_driveLow, (congrArg BitVec.toNat r.txSlot_txCur).trans (txCur_succ h.2), r.txSlot_request⟩
  · rw [if_neg h]
    exact ⟨rfl, rfl, rfl, rfl⟩

@[simp] theorem Regs.slotPart_txActive (r : Regs) : r.slotPart.txActive = r.txActive := by
  rcases r.slotPart_cases with ⟨-, h⟩ | ⟨-, h⟩ <;> simp [h]

@[simp] theorem Regs.slotPart_quietCnt (r : Regs) : r.slotPart.quietCnt = r.quietCnt := by
  rcases r.slotPart_cases with ⟨-, h⟩ | ⟨-, h⟩ <;> simp [h]

/-- FIRSTBIT with a request pending opens the first slot: the highest code bit is driven, the request and its
hold count stay (R140, R141, R143). -/
theorem Regs.firstSlot_of_pending (hcode : r.txCode ≠ 0) :
    r.firstBit.release.slotPart = { r with
      txActive := true, txCur := 1, quietCnt := 0, driveLow := r.txCode.getLsbD 6 } := by
  rw [Regs.firstBit_of_pending r hcode, Regs.slotPart_of_slot ⟨rfl, by simp⟩, Regs.txSlot_eq]
  simp [Regs.release, slotPlace]

/-- FIRSTBIT without a request counts a quiet frame, and drives nothing when no bit is left to send (R140,
R141, R143). -/
theorem Regs.firstSlot_of_idle (hcode : r.txCode = 0) (hslot : ¬ (r.txActive = true ∧ r.txCur.toNat < 7)) :
    r.firstBit.release.slotPart = { r with quietCnt := satInc r.quietCnt, driveLow := false } := by
  rw [Regs.firstBit_of_idle r hcode]
  exact Regs.slotPart_of_none hslot

end

/-- Settles O26: the first bit edge, with FIRSTBIT's two arms; without a request the invariant leaves no slot
open (R33 item 9). -/
theorem firstBitPicksUpTheRequest : Obligations.FirstBitPicksUpTheRequest := by
  intro data aux data2 now s hinv he hfirst
  obtain ⟨hpos, htick⟩ := Regs.tick_first (x := ⟨true, data, aux, data2, now⟩) he rfl hfirst Config.params
  refine ⟨_, exec_tick_of_regs (clk := true) htick, ?_⟩
  generalize hq : (((s.regs.entry ⟨true, data, aux, data2, now⟩).stamp now).bitShift data aux) = q
  have hqpos : q.pos = 1 := by rw [← hq, Regs.bitShift_pos, Regs.stamp_pos, hpos]; rfl
  have hcode : q.txCode = s.regs.txCode := by simp [← hq, Regs.entry]
  have hhold : q.txHold = s.regs.txHold := by simp [← hq, Regs.entry]
  have hcur : q.txCur = s.regs.txCur := by simp [← hq, Regs.entry]
  have hactive : q.txActive = s.regs.txActive := by simp [← hq, Regs.entry]
  have hquiet : q.quietCnt = s.regs.quietCnt := by simp [← hq, Regs.entry]
  rw [← hcode, ← hhold, ← hcur, ← hactive, ← hquiet]
  by_cases h0 : q.txCode = 0
  · have hslot : ¬ (q.txActive = true ∧ q.txCur.toNat < 7) := by
      rintro ⟨ha, hc⟩
      exact hinv.slots_pending (hactive ▸ ha) (hcur ▸ hc) (hcode ▸ h0)
    rw [Regs.firstSlot_of_idle h0 hslot, if_pos h0]
    exact ⟨hqpos, rfl, rfl, rfl, rfl, rfl, satInc_toNat _⟩
  · rw [Regs.firstSlot_of_pending h0, if_neg h0]
    exact ⟨hqpos, rfl, rfl, rfl, rfl, rfl, rfl⟩

/-- Settles O27: the edge is BITSHIFT, RELEASE and TXSLOT under its condition. -/
theorem slotDrivesTheNextBit : Obligations.SlotDrivesTheNextBit := by
  intro data aux data2 now s he hs h1 h6 hgap
  have hne : s.regs.pos ≠ 15 := fun h => absurd (h ▸ h6) (by decide)
  have hedge := Regs.bitEdge_of_slot (x := ⟨true, data, aux, data2, now⟩) (r := s.regs.clearDone) h1 h6
  refine ⟨_, exec_tick_of_regs (clk := true) (Regs.tick_bit_of_no_gap he rfl hgap hs hne _), ?_⟩
  rw [hedge]
  refine ⟨by simp, by simp, ?_⟩
  have hslot := (((s.regs.clearDone.stamp now).bitShift data aux).release).slotPart_transmitter
  rw [Regs.release_driveLow, Bool.or_false] at hslot
  exact hslot

/-- Settles O28: from slot 7 on the edge is RELEASE and TXEND, and the last one's COMPLETE and INTERPRET
write nothing of the transmitter. -/
theorem noEighthSlot : Obligations.NoEighthSlot := by
  intro data aux data2 now s he hs h7 h15 hgap
  by_cases hp : s.regs.pos = 15
  · refine ⟨_, exec_tick_of_regs (clk := true) (Regs.tick_last he rfl hgap hs hp), ?_⟩
    simp [Regs.lastEdge]
  · have hedge := Regs.bitEdge_of_late (x := ⟨true, data, aux, data2, now⟩) (r := s.regs.clearDone) h7 h15
    refine ⟨_, exec_tick_of_regs (clk := true) (Regs.tick_bit_of_no_gap he rfl hgap hs hp _), ?_⟩
    rw [hedge]
    exact ⟨rfl, rfl, rfl, rfl, rfl, rfl⟩

/-! ## The bit on the line -/

/-- The rising edge of slot `k` of a transmission drives the line by bit `6 - k` of the code, whether
FIRSTBIT opens the slot or it goes on (R140, R143). -/
theorem drives_code_bit {data aux data2 : Level} {now : Timestamp} {s : State} (he : s.regs.edgeMem = false)
    (hs : s.regs.sync = true) (hp : s.regs.pos.toNat ≤ 6) (hgap : ¬ s.regs.gapAt now)
    (hcode : s.regs.txCode ≠ 0)
    (hslot : s.regs.pos = 0 ∨ (s.regs.txActive = true ∧ s.regs.txCur.toNat = s.regs.pos.toNat)) :
    ∃ t, exec (.tickRise data aux data2 now) s = .next t ∧
      t.regs.driveLow = s.regs.txCode.getLsbD (6 - s.regs.pos.toNat) := by
  by_cases h0 : s.regs.pos = 0
  · obtain ⟨-, htick⟩ := Regs.tick_first (x := ⟨true, data, aux, data2, now⟩) he rfl (.inr ⟨hs, h0⟩)
      Config.params
    refine ⟨_, exec_tick_of_regs (clk := true) htick, ?_⟩
    rw [Regs.firstSlot_of_pending (by simpa [Regs.entry] using hcode), h0]
    simp [Regs.entry]
  · obtain ⟨hactive, hcur⟩ := hslot.resolve_left h0
    have h1 : 1 ≤ s.regs.pos.toNat := by
      rw [pos_eq_zero_iff] at h0
      omega
    obtain ⟨t, ht, -, -, hif⟩ := slotDrivesTheNextBit data aux data2 now s he hs h1 hp hgap
    rw [if_pos ⟨hactive, by omega⟩, hcur] at hif
    exact ⟨t, ht, hif.1⟩

/-- Settles O29: the bit driven by one edge is the level the next falling edge samples, one position on. -/
theorem sentBitIsHeardBack : Obligations.SentBitIsHeardBack := by
  intro data aux data2 data' aux' now now' s he hs hp hgap hcode hslot
  obtain ⟨t, ht, hdrive⟩ := drives_code_bit (data := data) (aux := aux) (data2 := data2) he hs hp hgap hcode hslot
  obtain ⟨t', ht', -, -, hedge, hkey, -, -, hif⟩ := risingEdgeShiftsOneBit data aux data2 now s false
    s.regs.pos.toNat he (iff_of_false Bool.false_ne_true hgap) (.inr hs) rfl (by omega)
  obtain rfl : t = t' := Host.Outcome.next.inj (ht.symm.trans ht')
  rw [if_neg (by omega)] at hif
  obtain ⟨hpos, -⟩ := hif
  obtain ⟨u, hu, -, hbits⟩ := tickFallSamplesOneKeypadBit data' aux' (!t.regs.driveLow) now' t hedge
  refine ⟨t, u, ht, hu, fun i hi => ?_⟩
  rw [hbits i hi, hkey, if_neg Bool.false_ne_true, hpos, hdrive, Bool.not_not]
  by_cases hplace : i + s.regs.pos.toNat = 6
  · rw [decide_eq_true (by omega), decide_eq_true hplace, show 6 - s.regs.pos.toNat = i by omega]
  · rw [decide_eq_false (by omega), decide_eq_false hplace, Bool.false_and, Bool.false_and]

/-! ## What a step can do to a request and to transmitting mode -/

/-- Settles O30: what changes a pending code is the countdown of a TICK or RESET; SEND_KEY accepts nothing
while it is pending (R161). -/
theorem requestEndsOnlyByCountdownOrReset : Obligations.RequestEndsOnlyByCountdownOrReset := by
  intro s t hstep hpending hchanged
  rcases step_regs_cases hstep with ht | ⟨x, ht⟩ | ⟨sym, n, -, ha, ht⟩ | ⟨ht, r, rest, hs, hd⟩ <;>
    rw [ht] at hchanged ⊢
  · exact absurd rfl hchanged
  · rcases s.regs.tick_txCode_cases Config.params x with hk | ⟨h0, hactive, hcur, hhold⟩
    · exact absurd hk hchanged
    · exact ⟨h0, .inl ⟨hactive, BitVec.eq_of_toNat_eq hcur, hhold⟩⟩
  · obtain ⟨-, hfree, -⟩ := (accepts_iff _ _ _ _).mp ha
    exact absurd hfree hpending
  · exact ⟨rfl, .inr ⟨r, rest, hs, ev_of_decode_reset hd⟩⟩

/-- A bit edge enters transmitting mode only where FIRSTBIT finds a request (R140). -/
theorem Regs.bitEdge_enters {x : LineSample} {r : Regs} (hold : r.txActive = false)
    (hnew : (r.bitEdge x).txActive = true) : r.pos = 0 ∧ r.txCode ≠ 0 := by
  rcases r.bitEdge_cases x with ⟨h0, h⟩ | ⟨-, -, h⟩ | ⟨-, h⟩ <;> rw [h] at hnew
  · refine ⟨h0, fun hc => ?_⟩
    rw [Regs.firstBit_of_idle ((r.stamp x.now).bitShift x.data x.aux) hc] at hnew
    simp [hold] at hnew
  · simp [hold] at hnew
  · nomatch hnew

/-- Settles O31: of the steps of a TICK only FIRSTBIT sets TX_ACTIVE, with a request and at position 0 of a
synchronized frame, and no other event sets it. -/
theorem transmittingModeStartsAtTheFirstBit : Obligations.TransmittingModeStartsAtTheFirstBit := by
  intro s t hstep hold hnew
  rcases step_regs_cases hstep with ht | ⟨x, ht⟩ | ⟨sym, n, -, -, ht⟩ | ⟨ht, -⟩ <;> rw [ht] at hnew ⊢
  · simp [hold] at hnew
  · have hshape := s.regs.tick_shape Config.params x
    generalize s.regs.tick Config.params x = r' at hshape hnew ⊢
    cases hshape with
    | low => simp [hold] at hnew
    | fall => rcases Regs.fallBranch_cases x s.regs.clearDone with ⟨-, -, h⟩ | ⟨-, h⟩ <;> simp [h, hold] at hnew
    | high => simp [Regs.entry, hold] at hnew
    | unsync => simp [hold] at hnew
    | bit hedge _ hsync =>
      have hold' : (s.regs.entry x).txActive = false := by simpa [Regs.entry] using hold
      obtain ⟨h0, hcode⟩ := Regs.bitEdge_enters hold' hnew
      refine ⟨hedge, rfl, by simpa [Regs.entry] using hcode, by simp [hsync], by simp [h0], ?_⟩
      have hslot := Regs.firstSlot_of_pending (r := ((s.regs.entry x).stamp x.now).bitShift x.data x.aux) hcode
      rw [Regs.bitEdge_of_first h0, hslot]
      exact ⟨rfl, rfl⟩
    | last => simp [Regs.lastEdge] at hnew
  · simp [hold] at hnew
  · nomatch hnew

end Sys2Proof.Machine

/-! PROOFS. Proofs/Samples.lean: which of its samples a TICK uses and which registers each reaches (10_state.md
R14, 20_memory.md R56, 40_tick_sync.md R101), and the first TICK after reset (70_reset_and_hazards.md R268). -/

namespace Sys2Proof.Machine

/-! ## Which sample at which edge -/

/-- The edge branch reads `data` and `aux` at a rising edge only, and `data2` at a falling edge only. -/
theorem Regs.tick_congr {x y : LineSample} {r : Regs} (p : Params) (hclk : x.clk = y.clk)
    (hnow : y.clk = true → x.now = y.now)
    (hrise : r.edgeMem = false → y.clk = true → x.data = y.data ∧ x.aux = y.aux)
    (hfall : r.edgeMem = true → y.clk = false → x.data2 = y.data2) : r.tick p x = r.tick p y := by
  obtain ⟨clk, data, aux, data2, now⟩ := x
  obtain ⟨clk', data', aux', data2', now'⟩ := y
  obtain rfl : clk = clk' := hclk
  cases he : r.edgeMem <;> cases clk
  · rw [Regs.tick_low he rfl, Regs.tick_low he rfl]
  · obtain ⟨rfl, rfl⟩ : data = data' ∧ aux = aux' := hrise he rfl
    obtain rfl : now = now' := hnow rfl
    rw [Regs.tick_rise he rfl, Regs.tick_rise he rfl]
    rfl
  · obtain rfl : data2 = data2' := hfall he rfl
    rw [Regs.tick_fall he rfl, Regs.tick_fall he rfl]
    rfl
  · obtain rfl : now = now' := hnow rfl
    rw [Regs.tick_high he rfl, Regs.tick_high he rfl]
    rfl

/-- Settles O36: in each clause the samples that differ are of an edge that this TICK is not. -/
theorem eachEdgeUsesItsOwnSamples : Obligations.EachEdgeUsesItsOwnSamples := by
  intro clk d₁ d₂ a₁ a₂ e₁ e₂ n₁ n₂ s
  refine ⟨fun h => exec_tick_of_regs (Regs.tick_congr _ rfl (fun _ => rfl) ?_ fun _ _ => rfl),
    fun h => exec_tick_of_regs (Regs.tick_congr _ rfl (fun _ => rfl) (fun _ _ => ⟨rfl, rfl⟩) ?_),
    fun h => exec_tick_of_regs (Regs.tick_congr _ rfl ?_ (fun _ _ => ⟨rfl, rfl⟩) fun _ _ => rfl)⟩
  · intro he hc
    change clk = true at hc
    simp [he, hc] at h
  · intro he hc
    change clk = false at hc
    simp [he, hc] at h
  · intro hc
    change clk = true at hc
    simp [h] at hc

/-! ## The auxiliary stream -/

/-- `b` is `a` but for the auxiliary accumulator and snapshot. -/
def Regs.SameButAux (a b : Regs) : Prop :=
  ∃ acc avail, b = { a with auxAcc := acc, auxAvail := avail }

section
variable {a b : Regs}

theorem Regs.SameButAux.gapTest (h : a.SameButAux b) (x : LineSample) (level : Level) :
    (a.gapTest x).SameButAux (b.gapTest { x with aux := level }) := by
  obtain ⟨acc, avail, rfl⟩ := h
  change Regs.SameButAux _ (if x.clk && inGap a x.now then _ else _)
  unfold Regs.gapTest
  split <;> exact ⟨_, _, rfl⟩

theorem Regs.SameButAux.fallBranch (h : a.SameButAux b) (x : LineSample) (level : Level) :
    (a.fallBranch x).SameButAux (b.fallBranch { x with aux := level }) := by
  obtain ⟨acc, avail, rfl⟩ := h
  change Regs.SameButAux _ (if inKeyWindow a then _ else _)
  unfold Regs.fallBranch
  split <;> exact ⟨_, _, rfl⟩

theorem Regs.SameButAux.firstBit (h : a.SameButAux b) : a.firstBit.SameButAux b.firstBit := by
  obtain ⟨acc, avail, rfl⟩ := h
  change Regs.SameButAux _ (if pending a then _ else _)
  unfold Regs.firstBit
  split <;> exact ⟨_, _, rfl⟩

theorem Regs.SameButAux.shiftPart (h : a.SameButAux b) (x : LineSample) (level : Level) :
    (a.shiftPart x).SameButAux (b.shiftPart { x with aux := level }) := by
  have hshift : (a.bitShift x.data x.aux).SameButAux (b.bitShift x.data level) := by
    obtain ⟨acc, avail, rfl⟩ := h
    exact ⟨_, _, rfl⟩
  obtain ⟨acc, avail, rfl⟩ := h
  change Regs.SameButAux _ (if a.pos = 0 then _ else _)
  unfold Regs.shiftPart
  split
  · exact hshift.firstBit
  · exact hshift

theorem Regs.SameButAux.endPart (h : a.SameButAux b) : a.endPart.SameButAux b.endPart := by
  obtain ⟨acc, avail, rfl⟩ := h
  change Regs.SameButAux _ (if atTxEnd a then _ else _)
  unfold Regs.endPart
  split <;> exact ⟨_, _, rfl⟩

theorem Regs.SameButAux.slotPart (h : a.SameButAux b) : a.slotPart.SameButAux b.slotPart := by
  obtain ⟨acc, avail, rfl⟩ := h
  change Regs.SameButAux _ (if hasSlot a then _ else _)
  unfold Regs.slotPart
  rw [Regs.txSlot_eq, Regs.txSlot_eq]
  split <;> exact ⟨_, _, rfl⟩

theorem Regs.SameButAux.completePart (h : a.SameButAux b) (p : Params) :
    (a.completePart p).SameButAux (b.completePart p) := by
  obtain ⟨acc, avail, rfl⟩ := h
  change Regs.SameButAux _ (if atFrameEnd a then _ else _)
  unfold Regs.completePart
  rw [Regs.interpret_eq, Regs.interpret_eq]
  split <;> exact ⟨_, _, rfl⟩

theorem Regs.SameButAux.stamp (h : a.SameButAux b) (t : Timestamp) : (a.stamp t).SameButAux (b.stamp t) := by
  obtain ⟨acc, avail, rfl⟩ := h
  exact ⟨_, _, rfl⟩

theorem Regs.SameButAux.release (h : a.SameButAux b) : a.release.SameButAux b.release := by
  obtain ⟨acc, avail, rfl⟩ := h
  exact ⟨_, _, rfl⟩

theorem Regs.SameButAux.riseBranch (h : a.SameButAux b) (p : Params) (x : LineSample) (level : Level) :
    (a.riseBranch p x).SameButAux (b.riseBranch p { x with aux := level }) := by
  have hsync : b.sync = a.sync := by
    obtain ⟨acc, avail, rfl⟩ := h
    rfl
  have hstamp := h.stamp x.now
  unfold Regs.riseBranch
  rw [hsync]
  split
  · exact ((hstamp.shiftPart x level).release.endPart.slotPart).completePart p
  · exact hstamp.release

/-- A TICK on two states that differ in the auxiliary stream only, with two auxiliary levels, leaves them
differing in that stream only: no condition of R100 reads it (R14, R72). -/
theorem Regs.SameButAux.tick (h : a.SameButAux b) (p : Params) (x : LineSample) (level : Level) :
    (a.tick p x).SameButAux (b.tick p { x with aux := level }) := by
  have hedge : b.edgeMem = a.edgeMem := by
    obtain ⟨acc, avail, rfl⟩ := h
    rfl
  have hclear : a.clearDone.SameButAux b.clearDone := by
    obtain ⟨acc, avail, rfl⟩ := h
    exact ⟨_, _, rfl⟩
  have hsave : ∀ {c d : Regs}, c.SameButAux d → (c.saveClk x.clk).SameButAux (d.saveClk x.clk) := by
    rintro c _ ⟨acc, avail, rfl⟩
    exact ⟨_, _, rfl⟩
  have hentry := hclear.gapTest x level
  refine hsave ?_
  unfold Regs.edgeBranch isFall isRise
  rw [Regs.gapTest_edgeMem, Regs.gapTest_edgeMem, Regs.clearDone_edgeMem, Regs.clearDone_edgeMem, hedge]
  split
  · exact hentry.fallBranch x level
  · split
    · exact hentry.riseBranch p x level
    · exact hentry

end

/-- What the two registers are replaced by is what they are. -/
theorem Regs.SameButAux.eq {a b : Regs} (h : a.SameButAux b) :
    b = { a with auxAcc := b.auxAcc, auxAvail := b.auxAvail } := by
  obtain ⟨acc, avail, rfl⟩ := h
  rfl

/-- A state whose ports are those of another is that one with its own registers. -/
theorem State.eq_with_regs {t u : State} {r : Regs} (hregs : t.regs = r) (hresult : t.result = u.result)
    (hscript : t.script = u.script) (henv : t.env = u.env) (hpolls : t.polls = u.polls) :
    t = { u with regs := r } := by
  rw [← hregs, ← hresult, ← hscript, ← henv, ← hpolls]

/-- Settles O35: the registers differ in the auxiliary stream only, and a TICK does not touch the ports. -/
theorem auxiliaryLineStaysInItsStream : Obligations.AuxiliaryLineStaysInItsStream := by
  intro clk data a₁ a₂ data2 now s₁ s₂ hs
  have hregs : s₁.regs.SameButAux s₂.regs := ⟨_, _, (congrArg State.regs hs).trans rfl⟩
  have hscript : s₂.script = s₁.script := (congrArg State.script hs).trans rfl
  have henv : s₂.env = s₁.env := (congrArg State.env hs).trans rfl
  have hpolls : s₂.polls = s₁.polls := (congrArg State.polls hs).trans rfl
  exact ⟨_, _, exec_tick clk data a₁ data2 now s₁, exec_tick clk data a₂ data2 now s₂, State.eq_with_regs
    (hregs.tick Config.params ⟨clk, data, a₁, data2, now⟩ a₂).eq rfl hscript henv hpolls⟩

/-! ## The first TICK after reset -/

/-- With the Idle-Gap Timer at 0 the idle time is the timestamp itself (R103). -/
theorem gapAt_reset (now : Timestamp) :
    Regs.reset.gapAt now ↔ 25000 ≤ now.toNat ∧ now.toNat ≤ 28000 := by
  change 25000 ≤ (now - 0#32).toNat ∧ (now - 0#32).toNat ≤ 28000 ↔ _
  rw [BitVec.sub_zero]

/-- Settles O39: with the clock low only FRAME_DONE and the Edge Memory are written, with their values;
a rising edge outside the window stamps, and in it RESYNC makes it a first bit edge without a request. -/
theorem firstTickAfterReset : Obligations.FirstTickAfterReset := by
  intro data aux data2 now
  refine ⟨rfl, ?_⟩
  split
  · next hwindow =>
    have hgap := (gapAt_reset now).mpr hwindow
    obtain ⟨-, htick⟩ := Regs.tick_first (x := ⟨true, data, aux, data2, now⟩) (r := Regs.reset) rfl rfl
      (.inl hgap) Config.params
    refine exec_tick_of_regs (clk := true) (s := State.reset) (htick.trans ?_)
    have hplace : ∀ b, (0 : Word) ||| placeBit 16 b 15 = if b then 0x8000 else 0 := by decide
    have hcount : satInc 0 = 1 := by decide
    rw [Regs.entry_of_gap rfl hgap, Regs.firstSlot_of_idle rfl (fun h => Bool.false_ne_true h.1), ← hplace,
      ← hplace, ← hcount]
    rfl
  · next hwindow =>
    have hgap := mt (gapAt_reset now).mp hwindow
    exact exec_tick_of_regs (clk := true) (s := State.reset) (Regs.tick_unsync rfl rfl hgap rfl)

end Sys2Proof.Machine

/-! PROOFS. Proofs/Requests.lean: RESET, SEND_KEY and WAIT_FRAME (43_host_ops.md). -/

namespace Sys2Proof.Machine

/-- Settles O38 (R30, R160). -/
theorem resetClearsEveryRegister : Obligations.ResetClearsEveryRegister := by
  intro s
  refine ⟨_, rfl, rfl, rfl, ?_⟩
  simp [Regs.reset]

/-! ## SEND_KEY -/

/-- Exactly a key has a code other than the sentinel (R203, R204). -/
theorem encodeSymbol_ne_zero_iff (sym : Symbol) :
    encodeSymbol Config.params sym ≠ 0 ↔ ∃ k, sym = .key k := by
  cases sym with
  | key k => exact iff_of_true (Config.keyCode_ne_zero k) ⟨k, rfl⟩
  | other c => exact iff_of_false (fun h => h rfl) (fun ⟨_, h⟩ => nomatch h)

/-- The four tests of R161 for the machine's own table. -/
theorem accepts_params_iff (sym : Symbol) (n : Nat) (r : Regs) :
    accepts Config.params sym n r = true ↔ (∃ k, sym = .key k) ∧ r.txCode = 0 ∧
      Config.params.minQuiet.toNat ≤ r.quietCnt.toNat ∧ n ≠ 0 := by
  rw [accepts_iff, encodeSymbol_ne_zero_iff]

/-- A request that passes the four tests is written and accepted (R161). -/
theorem exec_sendKey_of_accepts {sym : Symbol} {n : Nat} {s : State} (hn : n < 2 ^ 8)
    (h : accepts Config.params sym n s.regs = true) :
    exec (.sendKey sym n) s = .next ((s.mapRegs (Regs.request Config.params sym n)).answer .accept) := by
  rw [exec_sendKey hn, State.sendKey, if_pos h]

/-- Settles O40: SEND_KEY's two arms, under the four tests. -/
theorem sendKeyAcceptsExactly : Obligations.SendKeyAcceptsExactly := by
  intro sym n s hn
  rw [← accepts_params_iff]
  exact ⟨exec_sendKey_of_accepts hn, exec_sendKey_of_not_accepts hn⟩

/-- Settles O43: the second finds the first one pending, or fails the test that the first failed. -/
theorem secondIdenticalRequestIsRejected : Obligations.SecondIdenticalRequestIsRejected := by
  intro sym n s hn
  by_cases h : accepts Config.params sym n s.regs = true
  · refine ⟨_, exec_sendKey_of_accepts hn h, exec_sendKey_of_not_accepts hn fun h' => ?_⟩
    obtain ⟨hcode, -⟩ := (accepts_iff _ _ _ _).mp h
    obtain ⟨-, hfree, -⟩ := (accepts_iff _ _ _ _).mp h'
    exact hcode hfree
  · exact ⟨_, exec_sendKey_of_not_accepts hn h, exec_sendKey_of_not_accepts hn h⟩

/-- A key with a count from 1 is accepted exactly when the transmitter is ready (R161, R162). -/
theorem accepts_key_iff_ready {n : Nat} (hn : 1 ≤ n) (k : KeySymbol) (r : Regs) :
    accepts Config.params (.key k) n r = true ↔ ready Config.params r = true := by
  rw [accepts_params_iff, ready_iff]
  exact ⟨fun ⟨_, hfree, hquiet, _⟩ => ⟨hfree, hquiet⟩,
    fun ⟨hfree, hquiet⟩ => ⟨⟨k, rfl⟩, hfree, hquiet, Nat.one_le_iff_ne_zero.mp hn⟩⟩

/-- Settles O44. -/
theorem readyPredictsAcceptance : Obligations.ReadyPredictsAcceptance := by
  intro s
  refine ⟨ready Config.params s.regs, rfl, fun k n h1 hn => ?_⟩
  by_cases h : ready Config.params s.regs = true
  · exact ⟨_, exec_sendKey_of_accepts hn ((accepts_key_iff_ready h1 k _).mpr h), (if_pos h).symm⟩
  · exact ⟨_, exec_sendKey_of_not_accepts hn (mt (accepts_key_iff_ready h1 k _).mp h), (if_neg h).symm⟩

/-! ## WAIT_FRAME -/

theorem exec_waitFrame (s : State) : exec .waitFrame s =
    .next (if s.poll.regs.frameDone then s.poll else again .waitFrame s.poll) := rfl

/-- What a poll leaves at the ports: the event queue as it was, and the environment's next sample taken, or
a free one counted when there is none (R169). -/
theorem poll_ports (s : State) : s.poll.script = s.script ∧ s.poll.result = .noResult ∧
    (∀ y rest, s.env = y :: rest →
      (nextSample s).1 = y ∧ s.poll.env = rest ∧ s.poll.polls = s.polls) ∧
    (s.env = [] → s.poll.env = [] ∧ s.poll.polls = s.polls + 1) := by
  rcases nextSample_cases s with ⟨y, rest, henv, h⟩ | ⟨henv, h⟩
  · refine ⟨by simp [State.poll], rfl, fun y' rest' henv' => ?_, fun hnil => ?_⟩
    · obtain ⟨rfl, rfl⟩ := List.cons.inj (henv.symm.trans henv')
      simp [State.poll, h]
    · rw [henv] at hnil
      nomatch hnil
  · refine ⟨by simp [State.poll], rfl, fun y rest henv' => ?_, fun _ => ?_⟩
    · rw [henv] at henv'
      nomatch henv'
    · simp [State.poll, h, henv]

/-- Settles O52: one step is one poll, which is a TICK with the next sample; WAIT_FRAME is put back unless
that TICK completed a frame. -/
theorem waitFrameRunsOneTickAStep : Obligations.WaitFrameRunsOneTickAStep := by
  intro s
  obtain ⟨hscript, hresult, hcons, hnil⟩ := poll_ports s
  cases hdone : s.poll.regs.frameDone with
  | true =>
    refine ⟨(nextSample s).1, s.poll, _, ?_, rfl, poll_regs s, hresult, hcons, hnil, ?_⟩
    · rw [exec_waitFrame, if_pos hdone]
    · rw [if_pos hdone, hscript]
  | false =>
    refine ⟨(nextSample s).1, again .waitFrame s.poll, _, ?_, rfl, poll_regs s, hresult, hcons, hnil, ?_⟩
    · rw [exec_waitFrame, hdone]
      rfl
    · rw [again_regs, hdone, again_script, hscript]
      rfl

/-- A step of WAIT_FRAME, when it is the only event issued: it is still that, or a frame completed and no
event is left. -/
theorem step_waitFrame {s : State} (hs : s.script = [encode .waitFrame]) :
    ∃ t, step s = .next t ∧
      (t.script = [encode .waitFrame] ∨ (t.script = [] ∧ t.regs.frameDone = true)) := by
  have hd : decode (readRecord s (encode .waitFrame)) = .ok .waitFrame := by
    unfold readRecord
    rw [eventWord_of_class _ _ (by decide)]
    rfl
  obtain ⟨x, t, u, ht, -, -, -, -, -, hscript⟩ := waitFrameRunsOneTickAStep { s with script := [] }
  refine ⟨t, (step_of_decode hs hd).trans ht, ?_⟩
  cases hdone : t.regs.frameDone with
  | true => exact .inr ⟨by rw [hscript, if_pos hdone], rfl⟩
  | false => exact .inl (by rw [hscript, hdone]; rfl)

theorem run_succ {M : Host.Core} {s t : M.State} (h : M.step s = .next t) (k : Nat) :
    M.run (k + 1) s = M.run k t := by
  rw [Host.Core.run, h]

/-- With no event issued a run stays where it is (R59). -/
theorem run_of_nil {s : State} (hs : s.script = []) (k : Nat) :
    Host.Core.run Sys2Proof.core k s = .next s := by
  induction k with
  | zero => rfl
  | succ k ih =>
    exact (run_succ (M := Sys2Proof.core) (step_of_nil hs) k).trans ih

/-- Settles O53, by induction on the number of steps: each leaves WAIT_FRAME to be run again, or ends it with
a frame, after which nothing runs. -/
theorem waitFrameReturnsOnlyWithAFrame : Obligations.WaitFrameReturnsOnlyWithAFrame := by
  intro k
  induction k with
  | zero => exact fun s hs => ⟨s, rfl, .inl hs⟩
  | succ k ih =>
    intro s hs
    obtain ⟨t, hstep, hscript⟩ := step_waitFrame hs
    have hrun := run_succ (M := Sys2Proof.core) hstep k
    rcases hscript with hagain | ⟨hnil, hdone⟩
    · obtain ⟨u, hu, hend⟩ := ih t hagain
      exact ⟨u, hrun.trans hu, hend⟩
    · exact ⟨t, hrun.trans (run_of_nil hnil k), .inr ⟨hnil, hdone⟩⟩

end Sys2Proof.Machine

/-! PROOFS. Proofs/Tables.lean: the Key Code Table and the masks (44_interpreter.md R203 to R215). -/

namespace Sys2Proof

/-! ## The fields of a snapshot have different numbers -/

/-- The twelve status fields, in the order of their numbers. -/
def StatusBit.all : List StatusBit :=
  (List.finRange 6).map .zone ++ (List.finRange 5).map .light ++ [.beep]

theorem StatusBit.all_getElem?_index (b : StatusBit) : StatusBit.all[b.index.val]? = some b := by
  cases b with
  | zone i => revert i; decide
  | light j => revert j; decide
  | beep => rfl

theorem StatusBit.index_injective : Function.Injective StatusBit.index := by
  intro b b' h
  have hb := b.all_getElem?_index
  rw [h, b'.all_getElem?_index] at hb
  exact (Option.some.inj hb).symm

/-- The fourteen auxiliary fields, in the order of their numbers. -/
def AuxBit.all : List AuxBit :=
  [.pgm] ++ (List.finRange 3).map .button ++ [.armed, .armedBypass, .trouble, .fireLatched] ++
    (List.finRange 6).map .tripped

theorem AuxBit.all_getElem?_index (b : AuxBit) : AuxBit.all[b.index.val]? = some b := by
  cases b with
  | button i => revert i; decide
  | tripped i => revert i; decide
  | pgm | armed | armedBypass | trouble | fireLatched => rfl

theorem AuxBit.index_injective : Function.Injective AuxBit.index := by
  intro b b' h
  have hb := b.all_getElem?_index
  rw [h, b'.all_getElem?_index] at hb
  exact (Option.some.inj hb).symm

/-! ## The parameters of the machine -/

/-- The place of a status field in its word (R205). -/
def Config.statusBitPlace (b : StatusBit) : Fin 16 := Config.statusPlace b.index

/-- The place of an auxiliary field in its word (R208). -/
def Config.auxBitPlace (b : AuxBit) : Fin 16 := Config.auxPlace b.index

theorem Config.statusBitPlace_injective : Function.Injective Config.statusBitPlace :=
  Config.statusPlace.injective.comp StatusBit.index_injective

theorem Config.auxBitPlace_injective : Function.Injective Config.auxBitPlace :=
  Config.auxPlace.injective.comp AuxBit.index_injective

/-- Masks of different places differ. -/
theorem twoPow_injective : Function.Injective fun k : Fin 16 => BitVec.twoPow 16 k.val := by
  unfold Function.Injective
  decide

/-- Constraint (c) of R203, for the machine's own table: a code is at most 127. -/
theorem Config.keyCode_bit7 (k : KeySymbol) : (Config.keyCode k).getLsbD 7 = false := by
  have hplace := (Config.codePlace ⟨k.index.val, by omega⟩).isLt
  rw [BitVec.getLsbD, Config.keyCode_toNat]
  exact Nat.testBit_lt_two_pow (by omega)

/-- Settles O54: a permutation of the places keeps them apart, and a place of the 127 counted from 1 is a
code from 1 to 127. -/
theorem parametersMeetTheirConstraints : Obligations.ParametersMeetTheirConstraints where
  codes_differ := Config.keyCode_injective
  code_nonzero := Config.keyCode_ne_zero
  code_bit7_clear := Config.keyCode_bit7
  status_oneHot b := ⟨Config.statusBitPlace b, rfl⟩
  status_differ := twoPow_injective.comp Config.statusBitPlace_injective
  aux_oneHot b := ⟨Config.auxBitPlace b, rfl⟩
  aux_differ := twoPow_injective.comp Config.auxBitPlace_injective

namespace Machine

/-- Settles O55: in a table of different codes DECODE finds the key with the code and no other. -/
theorem keyTableRoundTrips : Obligations.KeyTableRoundTrips := fun _ hp =>
  ⟨fun k => (decodeCode_eq_some_iff hp.codes_differ _ k).mpr rfl, fun _ => rfl,
    fun _ hc => decodeCode_eq_none hc, decodeCode_eq_none hp.code_nonzero⟩

/-! ## The queries answer one bit -/

/-- A status field is the bit at its place (R205). -/
theorem statusField_eq_getLsbD (r : Regs) (b : StatusBit) :
    statusField Config.params r b = r.stAvail.getLsbD (Config.statusBitPlace b).val :=
  masked_twoPow _ _ (Config.statusBitPlace b).isLt

/-- An auxiliary field is the bit at its place (R208). -/
theorem auxField_eq_getLsbD (r : Regs) (b : AuxBit) :
    auxField Config.params r b = r.auxAvail.getLsbD (Config.auxBitPlace b).val :=
  masked_twoPow _ _ (Config.auxBitPlace b).isLt

theorem exec_qZoneLight (i : Fin 6) (s : State) : exec (.qZoneLight (i.val + 1)) s =
    .next (s.answer (.bit (statusField Config.params s.regs (.zone i)))) := by
  change answerStatus _ (zoneField (i.val + 1)) s = _
  rw [zoneField_eq, answerStatus_some]

theorem exec_qBtn (b : Fin 3) (s : State) : exec (.qBtn (b.val + 1)) s =
    .next (s.answer (.bit (auxField Config.params s.regs (.button b)))) := by
  change answerAux _ (buttonField (b.val + 1)) s = _
  rw [buttonField_eq, answerAux_some]

/-- Settles O49: each query answers its field, and a field is the bit at its place. -/
theorem statusQueriesAnswerOneBit : Obligations.StatusQueriesAnswerOneBit := by
  refine ⟨Config.statusBitPlace, Config.statusBitPlace_injective, fun s => ?_⟩
  simp only [← statusField_eq_getLsbD]
  exact ⟨fun i => exec_qZoneLight i s, fun j => exec_qStatusLight j s, rfl⟩

/-- The aggregate asks for the armed bit and at least one of the six tripped bits (R215). -/
theorem anyTrippedArmed_iff (p : Params) (r : Regs) : anyTrippedArmed p r = true ↔
    auxField p r .armed = true ∧ ∃ i : Fin 6, auxField p r (.tripped i) = true := by
  have hall : trippedAll = (List.finRange 6).map .tripped := rfl
  rw [anyTrippedArmed, Bool.and_eq_true, hall]
  simp

/-- Settles O50: as for the status word, with the aggregate. -/
theorem auxiliaryQueriesAnswerOneBit : Obligations.AuxiliaryQueriesAnswerOneBit := by
  refine ⟨Config.auxBitPlace, Config.auxBitPlace_injective, fun s => ?_⟩
  simp only [← auxField_eq_getLsbD]
  exact ⟨rfl, fun b => exec_qBtn b s, exec_qArmed s, exec_qArmedBypass s, exec_qTrouble s,
    exec_qFireLatched s, fun i => exec_qZoneTripped i s, _, rfl, anyTrippedArmed_iff _ _⟩

end Machine

end Sys2Proof
